-- ==== Sys2Proof/Word.lean ====
section
/-! DEFINITION. The word types of ISCF: the byte, the byte string and the 16-byte block (00_scope.md R9, R10). -/

namespace Sys2Proof

/-- A byte: 8 bits, bit 7 the most significant (00_scope.md R9). -/
abbrev Byte := BitVec 8

/-- A byte string of any length, index 0 first (00_scope.md R10). -/
abbrev Bytes := List Byte

/-- `bytes[16]`: an AES block, key, IV or chaining value (00_scope.md R10; 41_cipher.md R130). -/
abbrev Block := Vector Byte 16

/-- A 16-bit command word or error code (30_encoding.md R90, R106). -/
abbrev Half := BitVec 16

/-- A 32-bit value: a CRC32 (42_crc.md R170). -/
abbrev Word := BitVec 32

end Sys2Proof
end

