-- ==== Sys2Proof/Syntax.lean ====
section
/-! DEFINITION. The command syntax of ISCF: the operands and the command port's words (30_encoding.md R90, R91) and the
19 commands (30_encoding.md R94, R95). -/

namespace Sys2Proof

/-- The three operand types of 30_encoding.md R91. -/
inductive OperandType where
  | byte
  | time
  | bytes
deriving DecidableEq, Repr

/-- An operand as it arrives with its command word, a typed value (30_encoding.md R91). -/
inductive Operand where
  /-- One byte. -/
  | byte (b : Byte)
  /-- An unsigned 64-bit millisecond timestamp (00_scope.md R8). -/
  | time (t : BitVec 64)
  /-- A byte string given with its length. -/
  | bytes (s : Bytes)
deriving DecidableEq, Repr

/-- A command as the host issues it: "one 16-bit command word followed by its operands" (30_encoding.md R90). -/
structure Command where
  /-- The command word. -/
  word : Half
  /-- The operands, in order. -/
  operands : List Operand
deriving DecidableEq, Repr

/-- The 19 commands with their operands and modifiers (30_encoding.md R94, R95). A modifier that is 1 bit of the word
is a `Bool`; `P` of PACKET_BUILD is whether there is a param byte. A timestamp is a natural number of milliseconds
(00_scope.md R8). -/
inductive Instr where
  /-- `CIPHER_INIT key` (41_cipher.md R142). -/
  | cipherInit (key : Bytes)
  /-- `CIPHER_ENCRYPT data` (41_cipher.md R146). -/
  | cipherEncrypt (data : Bytes)
  /-- `CIPHER_DECRYPT data` (41_cipher.md R147). -/
  | cipherDecrypt (data : Bytes)
  /-- `CIPHER_IS_READY` (41_cipher.md R148). -/
  | cipherIsReady
  /-- `CRC32 data` (42_crc.md R172). -/
  | crc32 (data : Bytes)
  /-- `CRC_STAMP region` (42_crc.md R173). -/
  | crcStamp (region : Bytes)
  /-- `CRC_VALIDATE region` (42_crc.md R174). -/
  | crcValidate (region : Bytes)
  /-- `PACKET_BUILD[.P] cmd, [param,] data` (43_frame_codec.md R200). -/
  | packetBuild (cmd : Byte) (param : Option Byte) (data : Bytes)
  /-- `FRAME_ENCODE[.R][.E] content` (43_frame_codec.md R201). -/
  | frameEncode (respond encrypt : Bool) (content : Bytes)
  /-- `FRAME_DECODE frame` (43_frame_codec.md R203). -/
  | frameDecode (frame : Bytes)
  /-- `RX_BYTE b, t` (44_reassembler.md R230). -/
  | rxByte (b : Byte) (t : Nat)
  /-- `TX_WRITE w` (45_chunker.md R262). -/
  | txWrite (w : Bytes)
  /-- `TX_WRITE_DONE[.S]` (45_chunker.md R266). -/
  | txWriteDone (success : Bool)
  /-- `BLE_NOTIFY value, t` (45_chunker.md R270). -/
  | bleNotify (value : Bytes) (t : Nat)
  /-- `AUTH_BUILD key, enableFlag` (46_session.md R301). -/
  | authBuild (key : Bytes) (enableFlag : Byte)
  /-- `AUTH_CHECK[.O] echo` (46_session.md R303). -/
  | authCheck (enableOutbound : Bool) (echo : Bytes)
  /-- `SEND[.R] content` (46_session.md R306). -/
  | send (respond : Bool) (content : Bytes)
  /-- `SESSION_RESET` (46_session.md R312). -/
  | sessionReset
  /-- `RX_FRAME frame` (46_session.md R309). -/
  | rxFrame (frame : Bytes)
deriving DecidableEq, Repr

end Sys2Proof
end

