-- ==== Sys2Proof/WellFormed.lean ====
section
/-! DEFINITION. Which instructions the command port can carry. The syntax rules out everything else by its types; the
one check left is the width of a timestamp (00_scope.md R8: "carried on the interface as an unsigned 64-bit value").
Lengths of byte strings are checked by each command's own rule (30_encoding.md R91), not here. -/

namespace Sys2Proof

/-- A timestamp fits the 64 bits of the interface (00_scope.md R8). -/
def timeFits (t : Nat) : Bool := decide (t < 2 ^ 64)

/-- The check that the command port can carry an instruction. -/
def wellFormed : Instr → Bool
  | .rxByte _ t => timeFits t
  | .bleNotify _ t => timeFits t
  | .cipherInit _ | .cipherEncrypt _ | .cipherDecrypt _ | .cipherIsReady => true
  | .crc32 _ | .crcStamp _ | .crcValidate _ => true
  | .packetBuild _ _ _ | .frameEncode _ _ _ | .frameDecode _ => true
  | .txWrite _ | .txWriteDone _ => true
  | .authBuild _ _ | .authCheck _ _ | .send _ _ | .sessionReset | .rxFrame _ => true

/-- An instruction the command port can carry. -/
abbrev WellFormed (i : Instr) : Prop := wellFormed i = true

end Sys2Proof
end

