-- ==== Sys2Proof/Decode.lean ====
section
/-! DEFINITION. The decoder and the encoder of the command port, from the opcode map and the operand lists of
30_encoding.md R90, R91, R94, R95 and R96. The decoder is total on every command word and operand list and rejects by
name. -/

namespace Sys2Proof

/-- Why a command is no instruction. -/
inductive DecodeError where
  /-- Unassigned opcode, reserved bit set, or a modifier the opcode does not use (30_encoding.md R96). -/
  | illegalCommand
  /-- The operand list does not match the opcode's row, in number or type (30_encoding.md R91). -/
  | badOperand
deriving DecidableEq, Repr

/-- The type of an operand. -/
def Operand.type : Operand → OperandType
  | .byte _ => .byte
  | .time _ => .time
  | .bytes _ => .bytes

/-- One row of the opcode map: its mnemonic, its `match` and `mask` bits (opcode_table.json, from 30_encoding.md R94
and R96), the operand list its word asks for (30_encoding.md R95), and the instruction it makes of word and operands. -/
structure OpcodeRow where
  mnemonic : String
  pattern : Half
  mask : Half
  shape : Half → List OperandType
  build : Half → List Operand → Option Instr

/-- A row for a command whose only operand is a byte string. -/
def bytesRow (mnemonic : String) (pattern mask : Half) (make : Half → Bytes → Instr) : OpcodeRow :=
  { mnemonic, pattern, mask, shape := fun _ => [.bytes]
    build := fun w ops => match ops with
      | [.bytes s] => some (make w s)
      | _ => none }

/-- A row for a command without operands. -/
def bareRow (mnemonic : String) (pattern mask : Half) (make : Half → Instr) : OpcodeRow :=
  { mnemonic, pattern, mask, shape := fun _ => []
    build := fun w ops => match ops with
      | [] => some (make w)
      | _ => none }

/-- Modifier `R`, bit 7 of the command word (30_encoding.md R90). -/
def bitR (w : Half) : Bool := w.getLsbD 7
/-- Modifier `E`, bit 6 of the command word. -/
def bitE (w : Half) : Bool := w.getLsbD 6
/-- Flag `X` (`P`, `S` or `O`), bit 0 of the command word. -/
def bitX (w : Half) : Bool := w.getLsbD 0

/-- The opcode map: the 19 rows of 30_encoding.md R94 with the operands of R95. -/
def opcodeRows : List OpcodeRow :=
  [ bytesRow "CIPHER_INIT" 0x0100 0xFFFF fun _ key => .cipherInit key,
    bytesRow "CIPHER_ENCRYPT" 0x0200 0xFFFF fun _ data => .cipherEncrypt data,
    bytesRow "CIPHER_DECRYPT" 0x0300 0xFFFF fun _ data => .cipherDecrypt data,
    bareRow "CIPHER_IS_READY" 0x0400 0xFFFF fun _ => .cipherIsReady,
    bytesRow "CRC32" 0x1000 0xFFFF fun _ data => .crc32 data,
    bytesRow "CRC_STAMP" 0x1100 0xFFFF fun _ region => .crcStamp region,
    bytesRow "CRC_VALIDATE" 0x1200 0xFFFF fun _ region => .crcValidate region,
    { mnemonic := "PACKET_BUILD", pattern := 0x2000, mask := 0xFFFE
      shape := fun w => if bitX w then [.byte, .byte, .bytes] else [.byte, .bytes]
      build := fun w ops => if bitX w
        then match ops with
          | [.byte cmd, .byte param, .bytes data] => some (.packetBuild cmd (some param) data)
          | _ => none
        else match ops with
          | [.byte cmd, .bytes data] => some (.packetBuild cmd none data)
          | _ => none },
    bytesRow "FRAME_ENCODE" 0x2100 0xFF3F fun w content => .frameEncode (bitR w) (bitE w) content,
    bytesRow "FRAME_DECODE" 0x2200 0xFFFF fun _ frame => .frameDecode frame,
    { mnemonic := "RX_BYTE", pattern := 0x3000, mask := 0xFFFF
      shape := fun _ => [.byte, .time]
      build := fun _ ops => match ops with
        | [.byte b, .time t] => some (.rxByte b t.toNat)
        | _ => none },
    bytesRow "TX_WRITE" 0x4000 0xFFFF fun _ w => .txWrite w,
    bareRow "TX_WRITE_DONE" 0x4100 0xFFFE fun w => .txWriteDone (bitX w),
    { mnemonic := "BLE_NOTIFY", pattern := 0x4200, mask := 0xFFFF
      shape := fun _ => [.bytes, .time]
      build := fun _ ops => match ops with
        | [.bytes value, .time t] => some (.bleNotify value t.toNat)
        | _ => none },
    { mnemonic := "AUTH_BUILD", pattern := 0x5000, mask := 0xFFFF
      shape := fun _ => [.bytes, .byte]
      build := fun _ ops => match ops with
        | [.bytes key, .byte enableFlag] => some (.authBuild key enableFlag)
        | _ => none },
    bytesRow "AUTH_CHECK" 0x5100 0xFFFE fun w echo => .authCheck (bitX w) echo,
    bytesRow "SEND" 0x5200 0xFF7F fun w content => .send (bitR w) content,
    bareRow "SESSION_RESET" 0x5300 0xFFFF fun _ => .sessionReset,
    bytesRow "RX_FRAME" 0x5400 0xFFFF fun _ frame => .rxFrame frame ]

/-- The row a command word belongs to, if it is legal (30_encoding.md R96). -/
def rowOf (w : Half) : Option OpcodeRow :=
  opcodeRows.find? fun r => w &&& r.mask == r.pattern

/-- Decode a command. The word is checked first, then the operand list (60_exceptions.md R330). -/
def decode (c : Command) : Except DecodeError Instr :=
  match rowOf c.word with
  | none => .error .illegalCommand
  | some r =>
    match r.build c.word c.operands with
    | none => .error .badOperand
    | some i => .ok i

/-! ### The encoder -/

/-- A modifier's bits in the command word, when it is set. -/
def modifier (on : Bool) (bits : Half) : Half := if on then bits else 0

/-- The command word of an instruction (30_encoding.md R94 and the command's own rule). -/
def encodeWord : Instr → Half
  | .cipherInit _ => 0x0100
  | .cipherEncrypt _ => 0x0200
  | .cipherDecrypt _ => 0x0300
  | .cipherIsReady => 0x0400
  | .crc32 _ => 0x1000
  | .crcStamp _ => 0x1100
  | .crcValidate _ => 0x1200
  | .packetBuild _ param _ => 0x2000 ||| modifier param.isSome 0x0001
  | .frameEncode r e _ => 0x2100 ||| modifier r 0x0080 ||| modifier e 0x0040
  | .frameDecode _ => 0x2200
  | .rxByte _ _ => 0x3000
  | .txWrite _ => 0x4000
  | .txWriteDone s => 0x4100 ||| modifier s 0x0001
  | .bleNotify _ _ => 0x4200
  | .authBuild _ _ => 0x5000
  | .authCheck o _ => 0x5100 ||| modifier o 0x0001
  | .send r _ => 0x5200 ||| modifier r 0x0080
  | .sessionReset => 0x5300
  | .rxFrame _ => 0x5400

/-- The operands of an instruction, in the order of 30_encoding.md R95. -/
def encodeOperands : Instr → List Operand
  | .cipherInit key => [.bytes key]
  | .cipherEncrypt data => [.bytes data]
  | .cipherDecrypt data => [.bytes data]
  | .cipherIsReady => []
  | .crc32 data => [.bytes data]
  | .crcStamp region => [.bytes region]
  | .crcValidate region => [.bytes region]
  | .packetBuild cmd none data => [.byte cmd, .bytes data]
  | .packetBuild cmd (some param) data => [.byte cmd, .byte param, .bytes data]
  | .frameEncode _ _ content => [.bytes content]
  | .frameDecode frame => [.bytes frame]
  | .rxByte b t => [.byte b, .time (BitVec.ofNat 64 t)]
  | .txWrite w => [.bytes w]
  | .txWriteDone _ => []
  | .bleNotify value t => [.bytes value, .time (BitVec.ofNat 64 t)]
  | .authBuild key enableFlag => [.bytes key, .byte enableFlag]
  | .authCheck _ echo => [.bytes echo]
  | .send _ content => [.bytes content]
  | .sessionReset => []
  | .rxFrame frame => [.bytes frame]

/-- The command of an instruction. -/
def encode (i : Instr) : Command := { word := encodeWord i, operands := encodeOperands i }

/-! ### A table word with operands of zeros

The opcode table gives operands no bits, and the spec gives them no bit layout: they are typed values (30_encoding.md
R91). The operand whose bits are all zero is read as the byte 0, the time 0 and the byte string of length 0. DESIGN
CHOICE, log entry 8. -/

/-- The all-zero operand of a type. -/
def zeroOperand : OperandType → Operand
  | .byte => .byte 0
  | .time => .time 0
  | .bytes => .bytes []

/-- The command of a table word: the word itself, and an all-zero operand for each its row asks for. -/
def tableCommand (nbits w : Nat) : Command :=
  let word : Half := BitVec.ofNat 16 (w % 2 ^ nbits)
  { word
    operands := match rowOf word with
      | some r => (r.shape word).map zeroOperand
      | none => [] }

/-- The instruction the decoder reads from a table word of `nbits` bits followed by zeros. A word has 16 bits
(30_encoding.md R90); a number with a bit above them is no table word. -/
def decodeTableWord (nbits w : Nat) : Option Instr :=
  if w % 2 ^ nbits < 2 ^ 16 then
    match decode (tableCommand nbits w) with
    | .ok i => some i
    | .error _ => none
  else none

end Sys2Proof
end

