-- ==== Sys2Proof/Config.lean ====
section
/-! DEFINITION. What an instance of ISCF fixes: the fixed values of 00_scope.md R6, the parameters of R7, and the
free value the spec leaves to the entropy oracle (41_cipher.md R140). -/

namespace Sys2Proof

/-- The transport the send pipeline feeds (00_scope.md R7, D23: OPEN, an argument of the model). -/
inductive Backend where
  /-- Classic Bluetooth stream: a whole write is one unit. -/
  | spp
  /-- BLE GATT characteristic: units of 18 and 16 bytes. -/
  | ble
deriving DecidableEq, Repr

/-- What a byte that is no counted marker does to the watchdog counter (00_scope.md R7, D11: OPEN). -/
inductive WdPolicy where
  /-- Other bytes leave the counter as it is. -/
  | cumulative
  /-- Any other byte sets the counter to 0. -/
  | consecutive
deriving DecidableEq, Repr

/-- The configuration parameters that differ between instances (00_scope.md R7; 10_state.md R40). They are fixed for
the life of an instance; no command writes them. `MAX_N_ACCEPT` and `WD_DETAIL`, to which R7 gives one value each, are
the constants `maxNAccept` and `wdDetail`. -/
structure Config where
  /-- Which transport the instance is built for. -/
  backend : Backend
  /-- How the watchdog counter treats other bytes. -/
  wdPolicy : WdPolicy
  /-- Logging only: no rule reads it (44_reassembler.md R243). -/
  verboseLogging : Bool
  /-- Must be false; when true, `TX_WRITE` and `SEND` raise `Fault(Refused)` (45_chunker.md R272). -/
  specialChunkingMode : Bool
deriving DecidableEq, Repr

/-- The configuration of the spec's vectors "unless stated otherwise" (95_test_vectors.md, Fixed inputs): the one
`State.reset` uses. DESIGN CHOICE, log entry 4: unsafe for a claim that rests on it. -/
def Config.vectors : Config :=
  { backend := .ble, wdPolicy := .cumulative, verboseLogging := false, specialChunkingMode := false }

/-- The value of a draw the host has not supplied: a free value, of which nothing can be proved (41_cipher.md R140:
"A model takes each draw as a free input of the step and holds no law over it"). Log entry 5. -/
opaque Config.freeDraw : Nat → Block

/-! The fixed values of 00_scope.md R6 and R7. UNVERIFIED against a second source (N2), log entry 16. -/

/-- `START_TAG`, frame byte 0. -/
abbrev startTag : Byte := 0x55
/-- `FLAG_ENCRYPTED`, bit 6 of LEN_FLAGS. -/
abbrev flagEncrypted : Byte := 0x40
/-- `FLAG_RESPOND`, bit 7 of LEN_FLAGS. -/
abbrev flagRespond : Byte := 0x80
/-- `LEN_MASK`, the N field of LEN_FLAGS. -/
abbrev lenMask : Byte := 0x3F
/-- `SUBPACKET` and `BLOCK`: 16 bytes. -/
abbrev subpacket : Nat := 16
/-- `MAX_SUBPACKETS`. -/
abbrev maxSubpackets : Nat := 17
/-- `MAX_CONTENT` = 272 - 4 bytes. -/
abbrev maxContent : Nat := 268
/-- `CRC_LEN`. -/
abbrev crcLen : Nat := 4
/-- `HDR_LEN`. -/
abbrev hdrLen : Nat := 2
/-- `KEY_LEN`. -/
abbrev keyLen : Nat := 16
/-- `STALE_MS`, in milliseconds. -/
abbrev staleMs : Nat := 3000
/-- `WD_MARKER`. -/
abbrev wdMarkerByte : Byte := 0xAF
/-- `WD_LIMIT`: an event fires when the counter exceeds it. -/
abbrev wdLimit : Nat := 1024
/-- `BLE_UNIT`, the data bytes of a unit. -/
abbrev bleUnit : Nat := 16
/-- `BLE_FIRST_UNIT`: a 2-byte header and 16 bytes. -/
abbrev bleFirstUnit : Nat := 18
/-- `CMD_INIT_AUTH`. -/
abbrev cmdInitAuth : Byte := 0x11
/-- `MAX_N_ACCEPT`, the largest sub-packet count the decoder accepts (00_scope.md R7, D9). -/
abbrev maxNAccept : Nat := 17
/-- `WD_DETAIL`, the detail byte of the watchdog error code (00_scope.md R7, D16). -/
abbrev wdDetail : Byte := 0x00

end Sys2Proof
end

