-- ==== Sys2Proof/Machine/Bytes.lean ====
section
/-! DEFINITION. Byte strings and blocks: indexing, XOR, big-endian values and 16-byte pieces (00_scope.md R9, R10;
20_memory.md R63 to R68). -/

namespace Sys2Proof.Machine

/-- Byte `i` of a block, `b[i]` (00_scope.md R10). Index 16 and above, which no rule uses, reads as 0. -/
def byteAt (b : Block) (i : Nat) : Byte := b.toList.getD i 0

/-- The block whose byte `i` is `f i`. -/
def blockOf (f : Nat → Byte) : Block := ⟨⟨(List.range 16).map f⟩, by simp⟩

/-- The bytes of a block, index 0 first. -/
def blockBytes (b : Block) : Bytes := b.toList

/-- The block of the first 16 bytes of a string. -/
def blockOfBytes (s : Bytes) : Block := blockOf fun i => s.getD i 0

/-- A byte string read as `bytes[16]`, when it has that length. -/
def block16 (s : Bytes) : Option Block := if s.length = 16 then some (blockOfBytes s) else none

/-- `s ⊕ u` on blocks: bytewise XOR (00_scope.md R10). -/
def blockXor (a b : Block) : Block := blockOf fun i => byteAt a i ^^^ byteAt b i

/-- `zeros(n)` (00_scope.md R10). -/
def zeros (n : Nat) : Bytes := List.replicate n 0

/-- `be32(v)`: bits 31..24 first (00_scope.md R10; 20_memory.md R63). -/
def be32 (v : Word) : Bytes :=
  [v.extractLsb' 24 8, v.extractLsb' 16 8, v.extractLsb' 8 8, v.extractLsb' 0 8]

/-- `rd_be32(s)`, the inverse of `be32` on the first 4 bytes of `s` (00_scope.md R10). -/
def rdBe32 (s : Bytes) : Word := s.getD 0 0 ++ s.getD 1 0 ++ s.getD 2 0 ++ s.getD 3 0

/-- The first `n` 16-byte pieces of a string, in order. -/
def pieces : Nat → Bytes → List Bytes
  | 0, _ => []
  | n + 1, s => s.take 16 :: pieces n (s.drop 16)

/-- `s[16i .. 16i+16)` for `i` in `0 .. |s|/16 - 1`: the whole 16-byte pieces of a string. Every rule that uses it has
a length that is a multiple of 16 (20_memory.md R68). -/
def chunks16 (s : Bytes) : List Bytes := pieces (s.length / 16) s

/-- The blocks of a string whose length is a multiple of 16. -/
def blocksOf (s : Bytes) : List Block := (chunks16 s).map blockOfBytes

/-- The string of a list of blocks. -/
def bytesOf (bs : List Block) : Bytes := bs.flatMap blockBytes

end Sys2Proof.Machine
end

