-- ==== Sys2Proof/Machine/Aes.lean ====
section
/-! DEFINITION. The AES-128 block function as 41_cipher.md R130 to R137 gives it. PRESUMED by the spec from FIPS-197
(93_implementation_defined.md I1), log entry 9. -/

namespace Sys2Proof.Machine

/-! ### Field arithmetic (41_cipher.md R132) -/

/-- `xtime(a)`. -/
def xtime (a : Byte) : Byte := (a <<< 1) ^^^ (if a.getLsbD 7 then 0x1B else 0x00)

/-- The XOR of `xtime^i(a)` over the set bits `i` of the low `n` bits of `b`. -/
def gmulBits : Nat → Byte → Byte → Byte
  | 0, _, _ => 0
  | n + 1, a, b => (if b.getLsbD 0 then a else 0) ^^^ gmulBits n (xtime a) (b >>> 1)

/-- `a • b`, the product in GF(2^8). -/
def gmul (a b : Byte) : Byte := gmulBits 8 a b

/-- `inv(a)`: the byte whose product with `a` is 1, with `inv(0) = 0`. -/
def ginv (a : Byte) : Byte :=
  (((List.range 256).map (BitVec.ofNat 8)).find? fun b => gmul a b == 1).getD 0

/-! ### The S-box (41_cipher.md R133) -/

/-- The affine map `A(y)` of the S-box formula. -/
def sboxAffine (y : Byte) : Byte :=
  y ^^^ y.rotateLeft 1 ^^^ y.rotateLeft 2 ^^^ y.rotateLeft 3 ^^^ y.rotateLeft 4 ^^^ 0x63

/-- The table SBOX: row `hi`, column `lo` for `x = 16*hi + lo`. -/
def sboxTable : List (List Byte) :=
  [[0x63, 0x7C, 0x77, 0x7B, 0xF2, 0x6B, 0x6F, 0xC5, 0x30, 0x01, 0x67, 0x2B, 0xFE, 0xD7, 0xAB, 0x76],
   [0xCA, 0x82, 0xC9, 0x7D, 0xFA, 0x59, 0x47, 0xF0, 0xAD, 0xD4, 0xA2, 0xAF, 0x9C, 0xA4, 0x72, 0xC0],
   [0xB7, 0xFD, 0x93, 0x26, 0x36, 0x3F, 0xF7, 0xCC, 0x34, 0xA5, 0xE5, 0xF1, 0x71, 0xD8, 0x31, 0x15],
   [0x04, 0xC7, 0x23, 0xC3, 0x18, 0x96, 0x05, 0x9A, 0x07, 0x12, 0x80, 0xE2, 0xEB, 0x27, 0xB2, 0x75],
   [0x09, 0x83, 0x2C, 0x1A, 0x1B, 0x6E, 0x5A, 0xA0, 0x52, 0x3B, 0xD6, 0xB3, 0x29, 0xE3, 0x2F, 0x84],
   [0x53, 0xD1, 0x00, 0xED, 0x20, 0xFC, 0xB1, 0x5B, 0x6A, 0xCB, 0xBE, 0x39, 0x4A, 0x4C, 0x58, 0xCF],
   [0xD0, 0xEF, 0xAA, 0xFB, 0x43, 0x4D, 0x33, 0x85, 0x45, 0xF9, 0x02, 0x7F, 0x50, 0x3C, 0x9F, 0xA8],
   [0x51, 0xA3, 0x40, 0x8F, 0x92, 0x9D, 0x38, 0xF5, 0xBC, 0xB6, 0xDA, 0x21, 0x10, 0xFF, 0xF3, 0xD2],
   [0xCD, 0x0C, 0x13, 0xEC, 0x5F, 0x97, 0x44, 0x17, 0xC4, 0xA7, 0x7E, 0x3D, 0x64, 0x5D, 0x19, 0x73],
   [0x60, 0x81, 0x4F, 0xDC, 0x22, 0x2A, 0x90, 0x88, 0x46, 0xEE, 0xB8, 0x14, 0xDE, 0x5E, 0x0B, 0xDB],
   [0xE0, 0x32, 0x3A, 0x0A, 0x49, 0x06, 0x24, 0x5C, 0xC2, 0xD3, 0xAC, 0x62, 0x91, 0x95, 0xE4, 0x79],
   [0xE7, 0xC8, 0x37, 0x6D, 0x8D, 0xD5, 0x4E, 0xA9, 0x6C, 0x56, 0xF4, 0xEA, 0x65, 0x7A, 0xAE, 0x08],
   [0xBA, 0x78, 0x25, 0x2E, 0x1C, 0xA6, 0xB4, 0xC6, 0xE8, 0xDD, 0x74, 0x1F, 0x4B, 0xBD, 0x8B, 0x8A],
   [0x70, 0x3E, 0xB5, 0x66, 0x48, 0x03, 0xF6, 0x0E, 0x61, 0x35, 0x57, 0xB9, 0x86, 0xC1, 0x1D, 0x9E],
   [0xE1, 0xF8, 0x98, 0x11, 0x69, 0xD9, 0x8E, 0x94, 0x9B, 0x1E, 0x87, 0xE9, 0xCE, 0x55, 0x28, 0xDF],
   [0x8C, 0xA1, 0x89, 0x0D, 0xBF, 0xE6, 0x42, 0x68, 0x41, 0x99, 0x2D, 0x0F, 0xB0, 0x54, 0xBB, 0x16]]

/-- The table INV_SBOX. -/
def invSboxTable : List (List Byte) :=
  [[0x52, 0x09, 0x6A, 0xD5, 0x30, 0x36, 0xA5, 0x38, 0xBF, 0x40, 0xA3, 0x9E, 0x81, 0xF3, 0xD7, 0xFB],
   [0x7C, 0xE3, 0x39, 0x82, 0x9B, 0x2F, 0xFF, 0x87, 0x34, 0x8E, 0x43, 0x44, 0xC4, 0xDE, 0xE9, 0xCB],
   [0x54, 0x7B, 0x94, 0x32, 0xA6, 0xC2, 0x23, 0x3D, 0xEE, 0x4C, 0x95, 0x0B, 0x42, 0xFA, 0xC3, 0x4E],
   [0x08, 0x2E, 0xA1, 0x66, 0x28, 0xD9, 0x24, 0xB2, 0x76, 0x5B, 0xA2, 0x49, 0x6D, 0x8B, 0xD1, 0x25],
   [0x72, 0xF8, 0xF6, 0x64, 0x86, 0x68, 0x98, 0x16, 0xD4, 0xA4, 0x5C, 0xCC, 0x5D, 0x65, 0xB6, 0x92],
   [0x6C, 0x70, 0x48, 0x50, 0xFD, 0xED, 0xB9, 0xDA, 0x5E, 0x15, 0x46, 0x57, 0xA7, 0x8D, 0x9D, 0x84],
   [0x90, 0xD8, 0xAB, 0x00, 0x8C, 0xBC, 0xD3, 0x0A, 0xF7, 0xE4, 0x58, 0x05, 0xB8, 0xB3, 0x45, 0x06],
   [0xD0, 0x2C, 0x1E, 0x8F, 0xCA, 0x3F, 0x0F, 0x02, 0xC1, 0xAF, 0xBD, 0x03, 0x01, 0x13, 0x8A, 0x6B],
   [0x3A, 0x91, 0x11, 0x41, 0x4F, 0x67, 0xDC, 0xEA, 0x97, 0xF2, 0xCF, 0xCE, 0xF0, 0xB4, 0xE6, 0x73],
   [0x96, 0xAC, 0x74, 0x22, 0xE7, 0xAD, 0x35, 0x85, 0xE2, 0xF9, 0x37, 0xE8, 0x1C, 0x75, 0xDF, 0x6E],
   [0x47, 0xF1, 0x1A, 0x71, 0x1D, 0x29, 0xC5, 0x89, 0x6F, 0xB7, 0x62, 0x0E, 0xAA, 0x18, 0xBE, 0x1B],
   [0xFC, 0x56, 0x3E, 0x4B, 0xC6, 0xD2, 0x79, 0x20, 0x9A, 0xDB, 0xC0, 0xFE, 0x78, 0xCD, 0x5A, 0xF4],
   [0x1F, 0xDD, 0xA8, 0x33, 0x88, 0x07, 0xC7, 0x31, 0xB1, 0x12, 0x10, 0x59, 0x27, 0x80, 0xEC, 0x5F],
   [0x60, 0x51, 0x7F, 0xA9, 0x19, 0xB5, 0x4A, 0x0D, 0x2D, 0xE5, 0x7A, 0x9F, 0x93, 0xC9, 0x9C, 0xEF],
   [0xA0, 0xE0, 0x3B, 0x4D, 0xAE, 0x2A, 0xF5, 0xB0, 0xC8, 0xEB, 0xBB, 0x3C, 0x83, 0x53, 0x99, 0x61],
   [0x17, 0x2B, 0x04, 0x7E, 0xBA, 0x77, 0xD6, 0x26, 0xE1, 0x69, 0x14, 0x63, 0x55, 0x21, 0x0C, 0x7D]]

/-- The entry of a 16 by 16 table for `x = 16*hi + lo`. -/
def tableEntry (t : List (List Byte)) (x : Byte) : Byte := (t.getD (x.toNat / 16) []).getD (x.toNat % 16) 0

/-- `SBOX[x]`. -/
def sbox (x : Byte) : Byte := tableEntry sboxTable x

/-- `INV_SBOX[x]`. -/
def invSbox (x : Byte) : Byte := tableEntry invSboxTable x

/-! ### Key expansion (41_cipher.md R134) -/

/-- `RCON`. -/
def rcon : Bytes := [0x01, 0x02, 0x04, 0x08, 0x10, 0x20, 0x40, 0x80, 0x1B, 0x36]

/-- RotWord: `(t[1], t[2], t[3], t[0])`. -/
def rotWord (t : Bytes) : Bytes := t.drop 1 ++ t.take 1

/-- SubWord. -/
def subWord (t : Bytes) : Bytes := t.map sbox

/-- `t[0] <- t[0] ^ c`. -/
def xorFirst (c : Byte) : Bytes → Bytes
  | [] => []
  | x :: xs => (x ^^^ c) :: xs

/-- `w[i]` for `i ≥ 4`, from the words before it. -/
def nextKeyWord (w : List Bytes) (i : Nat) : Bytes :=
  let t := w.getD (i - 1) []
  let t' := if i % 4 = 0 then xorFirst (rcon.getD (i / 4 - 1) 0) (subWord (rotWord t)) else t
  List.zipWith (· ^^^ ·) (w.getD (i - 4) []) t'

/-- The words `w[0..43]` of a key. -/
def keyWords (k : Block) : List Bytes :=
  (List.range 40).foldl (fun w j => w ++ [nextKeyWord w (j + 4)])
    ((List.range 4).map fun i => ((blockBytes k).drop (4 * i)).take 4)

/-- `RK[j] = w[4j] ‖ w[4j+1] ‖ w[4j+2] ‖ w[4j+3]`. -/
def roundKey (k : Block) (j : Nat) : Block := blockOfBytes (((keyWords k).drop (4 * j)).take 4).flatten

/-! ### The round transformations (41_cipher.md R135)

State cell `s[r][c]` is byte `r + 4c` of the block (41_cipher.md R131). -/

/-- The cell in row `r` and column `c`. -/
def cell (s : Block) (r c : Nat) : Byte := byteAt s (r + 4 * c)

/-- The state whose cell in row `r` and column `c` is `f r c`. -/
def stateOf (f : Nat → Nat → Byte) : Block := blockOf fun i => f (i % 4) (i / 4)

/-- SubBytes. -/
def subBytes (s : Block) : Block := stateOf fun r c => sbox (cell s r c)

/-- InvSubBytes. -/
def invSubBytes (s : Block) : Block := stateOf fun r c => invSbox (cell s r c)

/-- ShiftRows: `s'[r][c] = s[r][(c + r) % 4]`. -/
def shiftRows (s : Block) : Block := stateOf fun r c => cell s r ((c + r) % 4)

/-- InvShiftRows: `s'[r][c] = s[r][(c - r) % 4]`. -/
def invShiftRows (s : Block) : Block := stateOf fun r c => cell s r ((c + 4 - r) % 4)

/-- The column mix `m0•a_r ^ m1•a_{r+1} ^ m2•a_{r+2} ^ m3•a_{r+3}`, indices mod 4. -/
def mixWith (m0 m1 m2 m3 : Byte) (s : Block) : Block :=
  stateOf fun r c =>
    gmul m0 (cell s r c) ^^^ gmul m1 (cell s ((r + 1) % 4) c) ^^^
      gmul m2 (cell s ((r + 2) % 4) c) ^^^ gmul m3 (cell s ((r + 3) % 4) c)

/-- MixColumns. -/
def mixColumns (s : Block) : Block := mixWith 2 3 1 1 s

/-- InvMixColumns. -/
def invMixColumns (s : Block) : Block := mixWith 14 11 13 9 s

/-- AddRoundKey(j). -/
def addRoundKey (k : Block) (j : Nat) (s : Block) : Block := blockXor s (roundKey k j)

/-! ### The block function (41_cipher.md R136, R137) -/

/-- AddRoundKey(0) and the rounds `1 .. n` of AES_E. -/
def encRounds (k : Block) (b : Block) : Nat → Block
  | 0 => addRoundKey k 0 b
  | j + 1 => addRoundKey k (j + 1) (mixColumns (shiftRows (subBytes (encRounds k b j))))

/-- `AES_E(K, b)`. -/
def aesE (k b : Block) : Block := addRoundKey k 10 (shiftRows (subBytes (encRounds k b 9)))

/-- The rounds `n` down to 1 of AES_D. -/
def decRounds (k : Block) : Nat → Block → Block
  | 0, s => s
  | j + 1, s => decRounds k j (invMixColumns (addRoundKey k (j + 1) (invSubBytes (invShiftRows s))))

/-- `AES_D(K, b)`. -/
def aesD (k b : Block) : Block :=
  addRoundKey k 0 (invSubBytes (invShiftRows (decRounds k 9 (addRoundKey k 10 b))))

end Sys2Proof.Machine
end

