-- ==== Sys2Proof/Machine/Cbc.lean ====
section
/-! DEFINITION. CBC over blocks (41_cipher.md R141, R144, R145). -/

namespace Sys2Proof.Machine

/-- The ciphertext blocks `C_i = AES_E(K, P_i ⊕ C_{i-1})` of the encrypt stream, from the chaining value `c`
(41_cipher.md R141, R144). -/
def cbcEncrypt (k : Block) : Block → List Block → List Block
  | _, [] => []
  | c, p :: ps => aesE k (blockXor p c) :: cbcEncrypt k (aesE k (blockXor p c)) ps

/-- The plaintext blocks `P_i = AES_D(K, C_i) ⊕ C_{i-1}` of the decrypt stream, from the chaining value `c`
(41_cipher.md R141, R145). -/
def cbcDecrypt (k : Block) : Block → List Block → List Block
  | _, [] => []
  | c, x :: xs => blockXor (aesD k x) c :: cbcDecrypt k x xs

/-- The chaining value after the ciphertext blocks `xs`, from the chaining value `c`: the last of them
(10_state.md R24, R25). -/
def lastBlock (c : Block) (xs : List Block) : Block := xs.getLastD c

end Sys2Proof.Machine
end

