-- ==== Sys2Proof/Machine/Crc.lean ====
section
/-! DEFINITION. The CRC32 of 42_crc.md R170. PRESUMED by the spec from the common CRC-32 libraries
(93_implementation_defined.md I2), log entry 10. -/

namespace Sys2Proof.Machine

/-- One turn of the inner loop of R170. -/
def crcBit (c : Word) : Word := if c.getLsbD 0 then (c >>> 1) ^^^ 0xEDB88320 else c >>> 1

/-- `n` turns of the inner loop. -/
def crcBits : Nat → Word → Word
  | 0, c => c
  | n + 1, c => crcBits n (crcBit c)

/-- The register after one byte. -/
def crcByte (c : Word) (x : Byte) : Word := crcBits 8 (c ^^^ x.zeroExtend 32)

/-- `CRC32(s)` (42_crc.md R170). -/
def crc32 (s : Bytes) : Word := s.foldl crcByte 0xFFFFFFFF ^^^ 0xFFFFFFFF

/-- `be32(CRC32(region[4..])) ‖ region[4..]` (42_crc.md R173). -/
def crcStamp (region : Bytes) : Bytes := be32 (crc32 (region.drop crcLen)) ++ region.drop crcLen

/-- `rd_be32(region[0..4)) == CRC32(region[4..])` (42_crc.md R174). -/
def crcValid (region : Bytes) : Bool := rdBe32 region == crc32 (region.drop crcLen)

end Sys2Proof.Machine
end

