-- ==== Sys2Proof/Machine/State.lean ====
section
/-! DEFINITION. The state of ISCF: the elements S1 to S19 of 10_state.md R42, the ports of 30_encoding.md R91, R92 and
R121, the configuration of 00_scope.md R7, and the values after power-on reset (70_reset_and_hazards.md R360). Plain
data throughout. -/

namespace Sys2Proof.Machine

/-- The reassembler's state, S10 (10_state.md R30; names by 90_conflicts.md C6). -/
inductive RxState where
  | awaitTag
  | awaitLength
  | awaitData
deriving DecidableEq, Repr

/-- The fault kinds of ISCF (60_exceptions.md R323). A fault of ISCF is a result and the sticky flag S19; the machine
goes on (R322, R324), so these are values of the state and not reasons to stop. -/
inductive FaultKind where
  | illegalCommand
  | badOperand
  | notReady
  | notAligned
  | contentLength
  | badWriteLength
  | headerPending
  | spuriousCompletion
  | noChallenge
  | refused
deriving DecidableEq, Repr

/-- Why FRAME_DECODE rejects a frame (30_encoding.md R93). -/
inductive CorruptReason where
  | invalidLength
  | invalidHeader
  | cipherNotReady
  | crcMismatch
deriving DecidableEq, Repr

/-- The value of an `OK` result (30_encoding.md R95). The empty value is the empty byte string. -/
inductive Value where
  /-- A byte string. -/
  | bytes (s : Bytes)
  /-- One byte. -/
  | byte (b : Byte)
  /-- A 32-bit value. -/
  | word (w : Word)
deriving DecidableEq, Repr

/-- What a command returns on the result port (30_encoding.md R92). -/
inductive Result where
  /-- The command completed. -/
  | ok (v : Value)
  /-- FRAME_DECODE rejected the frame. -/
  | corrupt (r : CorruptReason)
  /-- A failure the source names as an outcome, with its 16-bit error code. -/
  | error (code : Half)
  /-- The host broke a precondition. -/
  | fault (k : FaultKind)
deriving DecidableEq, Repr

/-- The output events (30_encoding.md R121). -/
inductive Event where
  /-- A received frame passed its checks. -/
  | data (payload : Bytes)
  /-- One transport write to perform. -/
  | txUnit (u : Bytes)
  /-- A condition the host must act on. -/
  | error (code : Half)
deriving DecidableEq, Repr

/-- The state of the machine. -/
structure State where
  /-- The instance's parameters (00_scope.md R7). No command writes them. -/
  config : Config
  /-- S1: the AES-128 key of both streams (10_state.md R22). -/
  key : Block
  /-- S2: true only after a successful `init` (R23). -/
  ready : Bool
  /-- S3: the chaining register of the encrypt stream (R24). -/
  encChain : Block
  /-- S4: the chaining register of the decrypt stream (R25). -/
  decChain : Block
  /-- S5: the IV of the last successful `init` (R26). -/
  iv : Block
  /-- S6: the compare blob of the last AUTH_BUILD (R27). -/
  cmp : Block
  /-- S7: whether there is a compare blob (R27). -/
  cmpValid : Bool
  /-- S8: the encrypt-outbound flag (R28). -/
  encOut : Bool
  /-- S9: whether the session is marked authenticated (R29). -/
  authOk : Bool
  /-- S10: the reassembler's state (R30). -/
  rxState : RxState
  /-- S11: where the next data byte is stored (R31). -/
  rxPos : Nat
  /-- S12: the length of the frame under assembly (R32). -/
  rxTarget : Nat
  /-- S13: the reassembly buffer, `bytes[rxTarget]` (R33). -/
  rxBuf : Bytes
  /-- S14: the receipt time of the last byte, in ms (R34). -/
  lastByteTime : Option Nat
  /-- S15: the watchdog counter (R35). -/
  wdCount : Nat
  /-- S16: the buffered 2-byte header (R36). -/
  hdrBuf : Option (Byte × Byte)
  /-- S17: the outbound queue, head first (R37). -/
  txQueue : List Bytes
  /-- S18: whether a unit is in flight (R38). -/
  inFlight : Bool
  /-- S19: the first fault any command raised (R39). -/
  fault : Option FaultKind
  /-- The command port: the commands the host issues, in its order (20_memory.md R73). Log entry 1. -/
  pending : List Command
  /-- The entropy port: draws the host has supplied and no command has taken, oldest first (60_exceptions.md R339).
  Log entry 5. -/
  entropy : List Block
  /-- The model's own: how many free draws have been taken. Log entry 5. -/
  drawCount : Nat
  /-- The result port: the last command's result (30_encoding.md R92). Log entry 6. -/
  result : Option Result
  /-- The output sequence: every event so far, oldest first (30_encoding.md R121; 20_memory.md R77). Log entry 7. -/
  events : List Event
deriving DecidableEq, Repr

/-- Reasons for which the machine stops with a fault: none. A fault of ISCF is a result after which the machine goes on
(60_exceptions.md R322, R324). Log entry 15 (safe). -/
inductive Fault
deriving DecidableEq, Repr

/-- Reasons for which an instruction has no meaning. -/
inductive Refusal where
  /-- Raised by `exec` for an instruction whose meaning has not been written; no arm raises it (safe). -/
  | notModelled (mnemonic : String)
deriving DecidableEq, Repr

/-- The value of a 16-byte register to which the spec gives none at reset. R360: "A model may give the unspecified
elements any fixed value, for example all zeros". DESIGN CHOICE, log entry 3. -/
def State.unspecifiedBlock : Block := Vector.replicate 16 0

/-- The state after power-on reset of an instance with the given configuration (70_reset_and_hazards.md R360). -/
def State.powerOn (config : Config) : State :=
  { config
    key := State.unspecifiedBlock
    ready := false
    encChain := State.unspecifiedBlock
    decChain := State.unspecifiedBlock
    iv := State.unspecifiedBlock
    cmp := State.unspecifiedBlock
    cmpValid := false
    encOut := false
    authOk := false
    rxState := .awaitTag
    rxPos := 0
    rxTarget := 0
    rxBuf := []
    lastByteTime := none
    wdCount := 0
    hdrBuf := none
    txQueue := []
    inFlight := false
    fault := none
    pending := []
    entropy := []
    drawCount := 0
    result := none
    events := [] }

/-- The machine right after reset, with the configuration of the spec's vectors (log entry 4). -/
def State.reset : State := State.powerOn Config.vectors

end Sys2Proof.Machine
end

