-- ==== Sys2Proof/Machine/Flags.lean ====
section
/-! DEFINITION. The flag and code bytes of ISCF: the LEN_FLAGS byte (30_encoding.md R101), the status, reason and kind
bytes of the result port (30_encoding.md R92, R93; 60_exceptions.md R323) and the structured error codes (30_encoding.md
R106; 60_exceptions.md R326). ISCF has no condition codes (10_state.md R41). -/

namespace Sys2Proof.Machine

/-! ### The LEN_FLAGS byte -/

/-- `N | (E << 6) | (R << 7)`, as the encoder writes it (30_encoding.md R101). -/
def lenFlags (n : Nat) (encrypted respond : Bool) : Byte :=
  BitVec.ofNat 8 n ||| (if encrypted then flagEncrypted else 0) ||| (if respond then flagRespond else 0)

/-- The sub-packet count N: bits 5..0. -/
def subpacketCount (b : Byte) : Nat := (b &&& lenMask).toNat

/-- `FLAG_ENCRYPTED`: bit 6. -/
def isEncrypted (b : Byte) : Bool := b.getLsbD 6

/-- `FLAG_RESPOND`: bit 7, which no rule reads on receive (30_encoding.md R101). -/
def asksResponse (b : Byte) : Bool := b.getLsbD 7

/-- `(byte & 0x3F) * 16 + 2`: the length of the frame a length byte announces (30_encoding.md R102; 44_reassembler.md
R232). -/
def targetLength (b : Byte) : Nat := subpacketCount b * 16 + 2

/-! ### Error codes -/

/-- The error categories (30_encoding.md R106). -/
inductive ErrorCategory where
  | bluetooth
  | hardware
  | packet
  | init
  | security
  | platformIntegration
deriving DecidableEq, Repr

/-- A category's number (30_encoding.md R106). -/
def categoryByte : ErrorCategory → Byte
  | .bluetooth => 0x01
  | .hardware => 0x02
  | .packet => 0x03
  | .init => 0x04
  | .security => 0x05
  | .platformIntegration => 0x10

/-- `category << 8 | detail` (30_encoding.md R106; 16 bits by 90_conflicts.md C1). -/
def errorCode (category : ErrorCategory) (detail : Byte) : Half :=
  ((categoryByte category).zeroExtend 16 <<< 8) ||| detail.zeroExtend 16

/-- `0x0500`: an invalid key (60_exceptions.md R326). -/
def invalidKeyCode : Half := errorCode .security 0x00

/-- `0x0200 | WD_DETAIL`: a hardware-watchdog reset (60_exceptions.md R326; category by 90_conflicts.md C9). -/
def watchdogCode : Half := errorCode .hardware wdDetail

/-- `0x0100`: a failed transport write (60_exceptions.md R326). -/
def writeFailedCode : Half := errorCode .bluetooth 0x00

/-- `0x0300`: a frame integrity error, which ISCF never emits; a host may map a `CORRUPT` result to it
(60_exceptions.md R326). -/
def corruptFrameCode : Half := errorCode .packet 0x00

/-! ### The result port's bytes -/

/-- The status byte of a result (30_encoding.md R92). -/
def statusByte : Result → Byte
  | .ok _ => 0x00
  | .corrupt _ => 0x01
  | .error _ => 0x02
  | .fault _ => 0xFF

/-- The reason byte of a `CORRUPT` result (30_encoding.md R93). -/
def reasonByte : CorruptReason → Byte
  | .invalidLength => 0x01
  | .invalidHeader => 0x02
  | .cipherNotReady => 0x03
  | .crcMismatch => 0x04

/-- The kind byte of a `FAULT` result (60_exceptions.md R323). -/
def kindByte : FaultKind → Byte
  | .illegalCommand => 0x01
  | .badOperand => 0x02
  | .notReady => 0x03
  | .notAligned => 0x04
  | .contentLength => 0x05
  | .badWriteLength => 0x06
  | .headerPending => 0x07
  | .spuriousCompletion => 0x08
  | .noChallenge => 0x09
  | .refused => 0x0A

/-- The one byte of a yes or no answer: 0x01 or 0x00 (30_encoding.md R95). -/
def boolByte (b : Bool) : Byte := if b then 0x01 else 0x00

end Sys2Proof.Machine
end

