-- ==== Sys2Proof/Machine/Operands.lean ====
section
/-! DEFINITION. The operand forms the commands take and the byte layouts made of them: content (30_encoding.md R103),
frame bodies (43_frame_codec.md R191, R192), frames (30_encoding.md R100), the auth packet (30_encoding.md R105), BLE
units (45_chunker.md R261), and the lengths the rules check. -/

namespace Sys2Proof.Machine

/-! ### Content and frames -/

/-- `cmd ‖ (param if P == 1 else []) ‖ data` (30_encoding.md R103; 43_frame_codec.md R200). -/
def contentOf (cmd : Byte) (param : Option Byte) (data : Bytes) : Bytes := cmd :: (param.toList ++ data)

/-- The content is legal for the encoder: 1 to 268 bytes (43_frame_codec.md R201, R207). -/
def contentFits (content : Bytes) : Bool := content.length != 0 && decide (content.length ≤ maxContent)

/-- `N(L) = ceil((L + 4) / 16)` (43_frame_codec.md R191). -/
def subpacketsFor (len : Nat) : Nat := (len + crcLen + 15) / subpacket

/-- The payload region: the content, then zeros up to `16N - 4` bytes (43_frame_codec.md R192). -/
def payloadRegion (content : Bytes) : Bytes :=
  content ++ zeros (subpacket * subpacketsFor content.length - crcLen - content.length)

/-- `Body(content)`: the CRC of the payload region, big-endian, then the region (43_frame_codec.md R192). -/
def plainBody (content : Bytes) : Bytes := be32 (crc32 (payloadRegion content)) ++ payloadRegion content

/-- `0x55 ‖ LEN_FLAGS ‖ body` (30_encoding.md R100; 43_frame_codec.md R201). -/
def frameOf (n : Nat) (encrypted respond : Bool) (body : Bytes) : Bytes :=
  startTag :: lenFlags n encrypted respond :: body

/-- The structural checks of FRAME_DECODE, in its order (43_frame_codec.md R203): the first that fails, if any. -/
def frameDefect (frame : Bytes) : Option CorruptReason :=
  let n := subpacketCount (frame.getD 1 0)
  if frame.length < hdrLen then some .invalidLength
  else if frame.getD 0 0 ≠ startTag then some .invalidHeader
  else if n = 0 ∨ n > maxNAccept then some .invalidLength
  else if frame.length ≠ hdrLen + subpacket * n then some .invalidLength
  else none

/-! ### The auth packet (30_encoding.md R105; 46_session.md R301) -/

/-- The challenge block of 16 random bytes: the big-endian CRC32 of bytes 4..15, then those bytes. -/
def challengeBlock (r : Block) : Block := blockOfBytes (crcStamp (blockBytes r))

/-- `0x11 ‖ enableFlag ‖ iv ‖ encrypted(challengeBlock) ‖ compareBlob`: 50 bytes. -/
def authContent (enableFlag : Byte) (iv encrypted compare : Block) : Bytes :=
  cmdInitAuth :: enableFlag :: (blockBytes iv ++ blockBytes encrypted ++ blockBytes compare)

/-! ### BLE units (45_chunker.md R260, R261) -/

/-- `Units(h, body)`: the 16-byte pieces of the body, the header, if any, before the first. -/
def units (h : Option (Byte × Byte)) (body : Bytes) : List Bytes :=
  match h, chunks16 body with
  | some (h0, h1), c :: cs => (h0 :: h1 :: c) :: cs
  | _, cs => cs

/-- The first two bytes of a write, as a header. -/
def headerOf (w : Bytes) : Byte × Byte := (w.getD 0 0, w.getD 1 0)

/-- The forms of a BLE write by its length (45_chunker.md R262). -/
inductive WriteForm where
  /-- A 2-byte header on its own. -/
  | header
  /-- A body: at least one piece of 16 bytes. -/
  | body
  /-- A whole frame, header and body in one buffer. -/
  | frame
  /-- Any other length. -/
  | bad
deriving DecidableEq, Repr

/-- The form of a BLE write of `n` bytes, the checks in the order of 45_chunker.md R262. -/
def writeForm (n : Nat) : WriteForm :=
  if n = hdrLen then .header
  else if n ≥ 16 ∧ n % 16 = 0 then .body
  else if n ≥ 18 ∧ n % 16 = 2 then .frame
  else .bad

/-! ### The packet command bytes (30_encoding.md R104)

ISCF carries them and reads none (46_session.md R315); it writes 0x11 (R301). -/

/-- The command bytes the source lists as "selected". -/
def packetCommands : List (Byte × String) :=
  [ (0x01, "IDENTIFY"), (0x02, "LED"), (0x03, "RUN_BOOTLOADER"), (0x04, "RUN_FIRMWARE"), (0x05, "GET_INFO"),
    (0x06, "ERASE"), (0x07, "ADD_DATA"), (0x08, "WRITE"), (0x10, "FW_INFO"), (0x11, "INIT_AUTH"),
    (0x20, "HID_STATUS_REPORT"), (0x21, "HID_KEYBOARD"), (0x22, "HID_CONSUMER"), (0x23, "HID_MOUSE"),
    (0x2F, "HID_STATUS") ]

end Sys2Proof.Machine
end

