-- ==== Sys2Proof/Machine/Ops.lean ====
section
/-! DEFINITION. The operations every command is made of: the ports, raising a fault, the entropy draws, the two cipher
streams, the outbound queue and its issue step (60_exceptions.md R320 to R323; 41_cipher.md R140, R144, R145;
45_chunker.md R262, R265). -/

namespace Sys2Proof.Machine

/-- What a meaning answers. -/
abbrev Answer := Host.Outcome State Fault Refusal

/-! ### The ports -/

/-- The command at the port, and the state in which the port holds the commands after it (60_exceptions.md R320). -/
def fetchCommand (s : State) : Option (Command × State) :=
  match s.pending with
  | [] => none
  | c :: rest => some (c, { s with pending := rest })

/-- `return OK(v)`, `return CORRUPT(r)`, `return ERROR(c)`: put a result on the result port (30_encoding.md R92). -/
def State.give (r : Result) (s : State) : State := { s with result := some r }

/-- `return OK(v)`. -/
def State.ok (v : Value) (s : State) : State := s.give (.ok v)

/-- `return OK([])`: the command has no value (30_encoding.md R95). -/
def State.done (s : State) : State := s.ok (.bytes [])

/-- `emit Ev`: append an event to the output sequence (00_scope.md R12). -/
def State.emit (e : Event) (s : State) : State := { s with events := s.events ++ [e] }

/-! ### Raising a fault -/

/-- `S.fault` after a fault of kind `k`: the first kind is kept (60_exceptions.md R322). -/
def stickyFault (old : Option FaultKind) (k : FaultKind) : Option FaultKind :=
  match old with
  | none => some k
  | some first => some first

/-- `raise Fault(k)`: the result is `FAULT(k)`, the sticky flag takes `k` if it held none, nothing else changes and no
event is emitted (60_exceptions.md R322). ISCF has no trap, and so no return from one (R333, R334). -/
def State.raise (k : FaultKind) (s : State) : State :=
  ({ s with fault := stickyFault s.fault k } : State).give (.fault k)

/-- The fault of a command the decoder rejects (30_encoding.md R91, R96). -/
def decodeFault : DecodeError → FaultKind
  | .illegalCommand => .illegalCommand
  | .badOperand => .badOperand

/-! ### Entropy (41_cipher.md R140; log entry 5) -/

/-- The value of `Draw16()`: the oldest draw the host supplied, else a free value. -/
def State.drawn (s : State) : Block :=
  match s.entropy with
  | d :: _ => d
  | [] => Config.freeDraw s.drawCount

/-- The state after a `Draw16()`: that draw is used up. -/
def State.afterDraw (s : State) : State :=
  match s.entropy with
  | _ :: rest => { s with entropy := rest }
  | [] => { s with drawCount := s.drawCount + 1 }

/-! ### The cipher -/

/-- `S.key <- key; S.iv <- v; S.encChain <- v; S.decChain <- v; S.ready <- true` (41_cipher.md R142; 46_session.md
R301). -/
def State.seed (key v : Block) (s : State) : State :=
  { s with key := key, iv := v, encChain := v, decChain := v, ready := true }

/-- A failed `init`: `S.ready <- false; return ERROR(0x0500)` (41_cipher.md R143; 46_session.md R301). -/
def State.badKey (s : State) : State := ({ s with ready := false } : State).give (.error invalidKeyCode)

/-- The ciphertext blocks `EncStream(data)` makes (41_cipher.md R144). -/
def State.encBlocks (data : Bytes) (s : State) : List Block := cbcEncrypt s.key s.encChain (blocksOf data)

/-- What `EncStream(data)` returns (41_cipher.md R144). -/
def State.encOutput (data : Bytes) (s : State) : Bytes := bytesOf (s.encBlocks data)

/-- The state after `EncStream(data)`: the chaining register holds the last ciphertext block (41_cipher.md R144). -/
def State.encAdvance (data : Bytes) (s : State) : State :=
  { s with encChain := lastBlock s.encChain (s.encBlocks data) }

/-- What `DecStream(data)` returns (41_cipher.md R145). -/
def State.decOutput (data : Bytes) (s : State) : Bytes := bytesOf (cbcDecrypt s.key s.decChain (blocksOf data))

/-- The state after `DecStream(data)`: the chaining register holds the last block of `data` (41_cipher.md R145). -/
def State.decAdvance (data : Bytes) (s : State) : State :=
  { s with decChain := lastBlock s.decChain (blocksOf data) }

/-! ### The outbound queue (45_chunker.md R262, R265) -/

/-- `Enqueue(us)`: append units at the tail of the queue, in order. -/
def State.enqueue (us : List Bytes) (s : State) : State := { s with txQueue := s.txQueue ++ us }

/-- `Issue()`: with the credit free and a unit queued, take the head, mark a write in flight and emit it. -/
def State.issue (s : State) : State :=
  match s.inFlight, s.txQueue with
  | false, u :: rest => ({ s with txQueue := rest, inFlight := true } : State).emit (.txUnit u)
  | _, _ => s

end Sys2Proof.Machine
end

