-- ==== Sys2Proof/Machine/Frame.lean ====
section
/-! DEFINITION. The frame codec: the shared operations that encode, decode and receive a frame, and the commands
PACKET_BUILD, FRAME_ENCODE and FRAME_DECODE (43_frame_codec.md R200 to R207; 46_session.md R309). -/

namespace Sys2Proof.Machine

/-! ### Encoding -/

/-- The frame of legal content (43_frame_codec.md R201): the CRC first, then the encryption of the whole body. -/
def State.encodedFrame (respond encrypt : Bool) (content : Bytes) (s : State) : Bytes :=
  frameOf (subpacketsFor content.length) encrypt respond
    (if encrypt then s.encOutput (plainBody content) else plainBody content)

/-- The state after encoding a frame: only an encrypted one moves the encrypt chain (43_frame_codec.md R201). -/
def State.afterEncode (encrypt : Bool) (content : Bytes) (s : State) : State :=
  if encrypt then s.encAdvance (plainBody content) else s

/-! ### Decoding -/

/-- The CRC check of a plain body, and the payload region it protects (43_frame_codec.md R203). -/
def checkBody (body : Bytes) : Except CorruptReason Bytes :=
  if crcValid body then .ok (body.drop crcLen) else .error .crcMismatch

/-- What FRAME_DECODE returns: the payload region or the reason (43_frame_codec.md R203). -/
def State.decodedFrame (frame : Bytes) (s : State) : Except CorruptReason Bytes :=
  match frameDefect frame with
  | some r => .error r
  | none =>
    if isEncrypted (frame.getD 1 0) then
      if s.ready then checkBody (s.decOutput (frame.drop hdrLen)) else .error .cipherNotReady
    else checkBody (frame.drop hdrLen)

/-- The state after FRAME_DECODE: the decrypt chain moves exactly when the frame passes the structural checks and is
flagged encrypted with the cipher ready, whether or not the CRC then matches (43_frame_codec.md R203, R205). -/
def State.afterDecode (frame : Bytes) (s : State) : State :=
  if (frameDefect frame).isNone && isEncrypted (frame.getD 1 0) && s.ready
  then s.decAdvance (frame.drop hdrLen) else s

/-- `RxFrame(frame)`: decode, emit `Data` on success, drop in silence otherwise (46_session.md R309). -/
def State.receiveFrame (frame : Bytes) (s : State) : State :=
  match s.decodedFrame frame with
  | .ok p => (s.afterDecode frame).emit (.data p)
  | .error _ => s.afterDecode frame

/-! ### Commands -/

/-- `PACKET_BUILD[.P] cmd, [param,] data` (43_frame_codec.md R200). -/
def execPacketBuild (cmd : Byte) (param : Option Byte) (data : Bytes) (s : State) : Answer :=
  if (contentOf cmd param data).length > maxContent then .next (s.raise .contentLength)
  else .next (s.ok (.bytes (contentOf cmd param data)))

/-- `FRAME_ENCODE[.R][.E] content` (43_frame_codec.md R201). -/
def execFrameEncode (respond encrypt : Bool) (content : Bytes) (s : State) : Answer :=
  if !contentFits content then .next (s.raise .contentLength)
  else if encrypt && !s.ready then .next (s.raise .notReady)
  else .next ((s.afterEncode encrypt content).ok (.bytes (s.encodedFrame respond encrypt content)))

/-- `FRAME_DECODE frame` (43_frame_codec.md R203). -/
def execFrameDecode (frame : Bytes) (s : State) : Answer :=
  match s.decodedFrame frame with
  | .ok p => .next ((s.afterDecode frame).ok (.bytes p))
  | .error r => .next ((s.afterDecode frame).give (.corrupt r))

end Sys2Proof.Machine
end

