-- ==== Sys2Proof/Machine/Reassembler.lean ====
section
/-! DEFINITION. The byte-stream reassembler: `RxStep` and the command RX_BYTE (44_reassembler.md R230 to R243). -/

namespace Sys2Proof.Machine

/-! ### The watchdog-reset detector (44_reassembler.md R233) -/

/-- `WdMarker()`: one more counted marker; past 1024 the event fires and the count starts again. -/
def State.wdMarker (s : State) : State :=
  if s.wdCount + 1 > wdLimit then ({ s with wdCount := 0 } : State).emit (.error watchdogCode)
  else { s with wdCount := s.wdCount + 1 }

/-- `WdOther()`: under `Consecutive` any other byte sets the count to 0. -/
def State.wdOther (s : State) : State :=
  match s.config.wdPolicy with
  | .consecutive => { s with wdCount := 0 }
  | .cumulative => s

/-! ### The transitions (44_reassembler.md R231, R232, R234) -/

/-- Whether a byte received at `t` is stale: strictly more than 3000 ms after the last one (44_reassembler.md R235). -/
def isStale (last : Option Nat) (t : Nat) : Bool :=
  match last with
  | none => false
  | some l => decide (t > l + staleMs)

/-- `TagStep(b)`. "log anomaly" has no effect (44_reassembler.md R243). -/
def tagStep (b : Byte) (s : State) : State :=
  if b = startTag then ({ s with rxState := .awaitLength } : State).wdOther
  else if b = wdMarkerByte then s.wdMarker
  else s.wdOther

/-- `LengthStep(b)`. -/
def lengthStep (b : Byte) (s : State) : State :=
  ({ s with
      rxTarget := targetLength b
      rxBuf := ((zeros (targetLength b)).set 0 startTag).set 1 b
      rxPos := 2
      rxState := .awaitData } : State).wdOther

/-- The state once a data byte is stored. -/
def storeByte (b : Byte) (s : State) : State :=
  ({ s with rxBuf := s.rxBuf.set s.rxPos b, rxPos := s.rxPos + 1 } : State).wdOther

/-- `DataStep(b)`: the reassembler returns to AwaitTag before the buffer is dispatched (44_reassembler.md R236). -/
def dataStep (b : Byte) (s : State) : State :=
  if s.rxPos ≥ s.rxTarget then ({ s with rxState := .awaitTag } : State).wdOther
  else if s.rxPos + 1 = s.rxTarget then
    ({ storeByte b s with rxState := .awaitTag } : State).receiveFrame (storeByte b s).rxBuf
  else storeByte b s

/-- Step 1 of `RxStep`: a stale byte forces AwaitTag, and the byte's time is kept (44_reassembler.md R231). -/
def arrive (t : Nat) (s : State) : State :=
  { s with
    rxState := if isStale s.lastByteTime t then .awaitTag else s.rxState
    lastByteTime := some t }

/-- `RxStep(b, t)`, the one reassembler transition (44_reassembler.md R231). -/
def rxStep (b : Byte) (t : Nat) (s : State) : State :=
  match (arrive t s).rxState with
  | .awaitTag => tagStep b (arrive t s)
  | .awaitLength => lengthStep b (arrive t s)
  | .awaitData => dataStep b (arrive t s)

/-- `RxStep` on each byte in index order, all at one time (45_chunker.md R270; 20_memory.md R74). -/
def rxSteps (value : Bytes) (t : Nat) (s : State) : State := value.foldl (fun s' b => rxStep b t s') s

/-! ### Command -/

/-- `RX_BYTE b, t` (44_reassembler.md R230). -/
def execRxByte (b : Byte) (t : Nat) (s : State) : Answer := .next (rxStep b t s).done

end Sys2Proof.Machine
end

