-- ==== Sys2Proof/Machine/Chunker.lean ====
section
/-! DEFINITION. The transport chunker's commands TX_WRITE, TX_WRITE_DONE and BLE_NOTIFY (45_chunker.md R262 to R274). -/

namespace Sys2Proof.Machine

/-- Queue units, issue one if the credit is free, and return `OK([])`: the end of TX_WRITE (45_chunker.md R262). -/
def State.sendUnits (us : List Bytes) (s : State) : State := ((s.enqueue us).issue).done

/-- `TX_WRITE w` on BLE (45_chunker.md R262). -/
def txWriteBle (w : Bytes) (s : State) : State :=
  match writeForm w.length with
  | .header =>
    if s.hdrBuf.isSome then s.raise .headerPending
    else ({ s with hdrBuf := some (headerOf w) } : State).sendUnits []
  | .body => ({ s with hdrBuf := none } : State).sendUnits (units s.hdrBuf w)
  | .frame =>
    if s.hdrBuf.isSome then s.raise .headerPending
    else s.sendUnits (units (some (headerOf w)) (w.drop hdrLen))
  | .bad => s.raise .badWriteLength

/-- `TX_WRITE w` on SPP: a whole write is one unit (45_chunker.md R261, R262). -/
def txWriteSpp (w : Bytes) (s : State) : State :=
  if w.length = 0 then s.raise .badWriteLength else s.sendUnits [w]

/-- `TX_WRITE w` (45_chunker.md R262; the refused mode: R272). -/
def execTxWrite (w : Bytes) (s : State) : Answer :=
  if s.config.specialChunkingMode then .next (s.raise .refused)
  else match s.config.backend with
    | .spp => .next (txWriteSpp w s)
    | .ble => .next (txWriteBle w s)

/-- `TX_WRITE_DONE[.S]` (45_chunker.md R266). -/
def execTxWriteDone (success : Bool) (s : State) : Answer :=
  if !s.inFlight then .next (s.raise .spuriousCompletion)
  else if success then .next (({ s with inFlight := false } : State).issue).done
  else .next (({ s with inFlight := false, txQueue := [], hdrBuf := none } : State).emit (.error writeFailedCode)).done

/-- `BLE_NOTIFY value, t` (45_chunker.md R270). -/
def execBleNotify (value : Bytes) (t : Nat) (s : State) : Answer := .next (rxSteps value t s).done

end Sys2Proof.Machine
end

