-- ==== Sys2Proof/Machine/Cipher.lean ====
section
/-! DEFINITION. The cipher commands (41_cipher.md R142, R143, R146, R147, R148). -/

namespace Sys2Proof.Machine

/-- `CIPHER_INIT key` (41_cipher.md R142; a bad key: R143). -/
def execCipherInit (key : Bytes) (s : State) : Answer :=
  match block16 key with
  | none => .next s.badKey
  | some k => .next ((s.afterDraw.seed k s.drawn).ok (.bytes (blockBytes s.drawn)))

/-- `CIPHER_ENCRYPT data` (41_cipher.md R146). -/
def execCipherEncrypt (data : Bytes) (s : State) : Answer :=
  if !s.ready then .next (s.raise .notReady)
  else if data.length % 16 ≠ 0 then .next (s.raise .notAligned)
  else .next ((s.encAdvance data).ok (.bytes (s.encOutput data)))

/-- `CIPHER_DECRYPT data` (41_cipher.md R147). -/
def execCipherDecrypt (data : Bytes) (s : State) : Answer :=
  if !s.ready then .next (s.raise .notReady)
  else if data.length % 16 ≠ 0 then .next (s.raise .notAligned)
  else .next ((s.decAdvance data).ok (.bytes (s.decOutput data)))

/-- `CIPHER_IS_READY` (41_cipher.md R148). -/
def execCipherIsReady (s : State) : Answer := .next (s.ok (.byte (boolByte s.ready)))

end Sys2Proof.Machine
end

