-- ==== Sys2Proof/Machine/Integrity.lean ====
section
/-! DEFINITION. The CRC32 commands (42_crc.md R172, R173, R174). -/

namespace Sys2Proof.Machine

/-- `CRC32 data` (42_crc.md R172). -/
def execCrc32 (data : Bytes) (s : State) : Answer := .next (s.ok (.word (crc32 data)))

/-- `CRC_STAMP region` (42_crc.md R173). -/
def execCrcStamp (region : Bytes) (s : State) : Answer :=
  if region.length < crcLen then .next (s.raise .badOperand)
  else .next (s.ok (.bytes (crcStamp region)))

/-- `CRC_VALIDATE region` (42_crc.md R174). -/
def execCrcValidate (region : Bytes) (s : State) : Answer :=
  if region.length < crcLen then .next (s.raise .badOperand)
  else .next (s.ok (.byte (boolByte (crcValid region))))

end Sys2Proof.Machine
end

