-- ==== Sys2Proof/Machine/Session.lean ====
section
/-! DEFINITION. The session commands AUTH_BUILD, AUTH_CHECK, SEND, SESSION_RESET and RX_FRAME (46_session.md R301 to
R319). -/

namespace Sys2Proof.Machine

/-! ### AUTH_BUILD: three draws in the order IV, challenge, compare blob (46_session.md R301) -/

/-- The state after draw 1 and the initialisation of the cipher. -/
def State.authSeeded (k : Block) (s : State) : State := s.afterDraw.seed k s.drawn

/-- The challenge block, from draw 2. -/
def State.authChallenge (k : Block) (s : State) : Block := challengeBlock (s.authSeeded k).drawn

/-- The state after draw 2 and the encryption of the challenge block. -/
def State.authChallenged (k : Block) (s : State) : State :=
  (s.authSeeded k).afterDraw.encAdvance (blockBytes (s.authChallenge k))

/-- The encrypted challenge block, the first block of the encrypt stream. -/
def State.authEncrypted (k : Block) (s : State) : Block := (s.authChallenged k).encChain

/-- The state after draw 3, the compare blob. -/
def State.authBuilt (k : Block) (s : State) : State :=
  { (s.authChallenged k).afterDraw with cmp := (s.authChallenged k).drawn, cmpValid := true, authOk := false }

/-- `AUTH_BUILD key, enableFlag` (46_session.md R301). -/
def execAuthBuild (key : Bytes) (enableFlag : Byte) (s : State) : Answer :=
  match block16 key with
  | none => .next s.badKey
  | some k => .next ((s.authBuilt k).ok (.bytes
      (authContent enableFlag s.drawn (s.authEncrypted k) (s.authBuilt k).cmp)))

/-! ### AUTH_CHECK -/

/-- Whether an echo decrypts to the compare blob (46_session.md R303; 90_conflicts.md C2). -/
def State.echoAccepted (echo : Block) (s : State) : Bool := blockXor (aesD s.key echo) s.decChain == s.cmp

/-- `AUTH_CHECK[.O] echo` (46_session.md R303). -/
def execAuthCheck (enableOutbound : Bool) (echo : Bytes) (s : State) : Answer :=
  if !s.cmpValid then .next (s.raise .noChallenge)
  else match block16 echo with
    | none => .next (s.raise .badOperand)
    | some e =>
      if !s.ready then .next (s.raise .notReady)
      else if s.echoAccepted e then
        .next (({ s.decAdvance echo with encOut := enableOutbound, authOk := true } : State).ok (.byte 0x01))
      else .next (({ s.decAdvance echo with authOk := false } : State).ok (.byte 0x00))

/-! ### SEND -/

/-- The units of a frame on a backend (46_session.md R306). -/
def frameUnits (backend : Backend) (frame : Bytes) : List Bytes :=
  match backend with
  | .ble => units (some (headerOf frame)) (frame.drop hdrLen)
  | .spp => [frame]

/-- `SEND[.R] content` (46_session.md R306). -/
def execSend (respond : Bool) (content : Bytes) (s : State) : Answer :=
  if s.config.specialChunkingMode then .next (s.raise .refused)
  else if !contentFits content then .next (s.raise .contentLength)
  else if s.encOut && !s.ready then .next (s.raise .notReady)
  else if s.config.backend == .ble && s.hdrBuf.isSome then .next (s.raise .headerPending)
  else .next ((s.afterEncode s.encOut content).sendUnits
    (frameUnits s.config.backend (s.encodedFrame respond s.encOut content)))

/-! ### SESSION_RESET -/

/-- The state the assignments of SESSION_RESET leave (46_session.md R312). -/
def State.sessionCleared (s : State) : State :=
  { s with
    ready := false, cmpValid := false, encOut := false, authOk := false
    rxState := .awaitTag, rxPos := 0, rxTarget := 0, rxBuf := []
    lastByteTime := none, wdCount := 0
    hdrBuf := none, txQueue := [], inFlight := false }

/-- `SESSION_RESET` (46_session.md R312). -/
def execSessionReset (s : State) : Answer := .next s.sessionCleared.done

/-! ### RX_FRAME -/

/-- `RX_FRAME frame` (46_session.md R309). -/
def execRxFrame (frame : Bytes) (s : State) : Answer := .next (s.receiveFrame frame).done

end Sys2Proof.Machine
end

