-- ==== Sys2Proof/Machine/Dispatch.lean ====
section
/-! DEFINITION. The meaning of every command, one arm per constructor (30_encoding.md R94). -/

namespace Sys2Proof.Machine

def exec (i : Instr) (s : State) : Host.Outcome State Fault Refusal :=
  match i with
  | .cipherInit key => Sys2Proof.Machine.execCipherInit key s
  | .cipherEncrypt data => Sys2Proof.Machine.execCipherEncrypt data s
  | .cipherDecrypt data => Sys2Proof.Machine.execCipherDecrypt data s
  | .cipherIsReady => Sys2Proof.Machine.execCipherIsReady s
  | .crc32 data => Sys2Proof.Machine.execCrc32 data s
  | .crcStamp region => Sys2Proof.Machine.execCrcStamp region s
  | .crcValidate region => Sys2Proof.Machine.execCrcValidate region s
  | .packetBuild cmd param data => Sys2Proof.Machine.execPacketBuild cmd param data s
  | .frameEncode respond encrypt content => Sys2Proof.Machine.execFrameEncode respond encrypt content s
  | .frameDecode frame => Sys2Proof.Machine.execFrameDecode frame s
  | .rxByte b t => Sys2Proof.Machine.execRxByte b t s
  | .txWrite w => Sys2Proof.Machine.execTxWrite w s
  | .txWriteDone success => Sys2Proof.Machine.execTxWriteDone success s
  | .bleNotify value t => Sys2Proof.Machine.execBleNotify value t s
  | .authBuild key enableFlag => Sys2Proof.Machine.execAuthBuild key enableFlag s
  | .authCheck enableOutbound echo => Sys2Proof.Machine.execAuthCheck enableOutbound echo s
  | .send respond content => Sys2Proof.Machine.execSend respond content s
  | .sessionReset => Sys2Proof.Machine.execSessionReset s
  | .rxFrame frame => Sys2Proof.Machine.execRxFrame frame s

end Sys2Proof.Machine
end

