-- ==== Sys2Proof/Machine/Step.lean ====
section
/-! DEFINITION. One step of ISCF: take the command at the port, decode it, run it (60_exceptions.md R320). -/

namespace Sys2Proof.Machine

/-- One step. With no command at the port the block holds its state (60_exceptions.md R342; log entry 2). A command the
decoder rejects raises its fault (30_encoding.md R91, R96). -/
def step (s : State) : Host.Outcome State Fault Refusal :=
  match fetchCommand s with
  | none => .next s
  | some (c, s') =>
    match decode c with
    | .ok i => exec i s'
    | .error e => .next (s'.raise (decodeFault e))

/-- The state in which the next command at the port is the table word `w`, with operands of zeros (log entries 1 and
8). -/
def State.withFetchWord (s : State) (nbits w : Nat) : State :=
  { s with pending := tableCommand nbits w :: s.pending }

end Sys2Proof.Machine
end

