-- ==== Sys2Proof/Machine/Pseudo.lean ====
section
/-! DEFINITION. The pseudo-commands of 30_encoding.md R98: SEND_PKT, RX_BYTES and HANDSHAKE. "Each expands to real
commands and has no meaning beyond its expansion", so they are no constructors of `Instr`. Where one command's content
is the result of another that returned none, the expansion ends there: DESIGN CHOICE, log entry 17. -/

namespace Sys2Proof.Machine

/-- Run a command after another. -/
def andThen (a : Answer) (f : State → Answer) : Answer :=
  match a with
  | .next s => f s
  | .fault r => .fault r
  | .refused r => .refused r

/-- Run commands in order. -/
def execAll : List Instr → State → Answer
  | [], s => .next s
  | i :: is, s => andThen (exec i s) (execAll is)

/-- Run `f` on the byte string the last command returned with `OK`; without one, stop. -/
def withOkBytes (f : Bytes → State → Answer) (s : State) : Answer :=
  match s.result with
  | some (.ok (.bytes b)) => f b s
  | _ => .next s

/-- `SEND_PKT[.R] cmd, [param,] [data]`: PACKET_BUILD, then SEND of its content. -/
def pseudoSendPkt (respond : Bool) (cmd : Byte) (param : Option Byte) (data : Bytes) (s : State) : Answer :=
  andThen (exec (.packetBuild cmd param data) s) (withOkBytes fun content => exec (.send respond content))

/-- The expansion of `RX_BYTES [b0 b1 ... bk], t=T`. -/
def rxBytes (bs : Bytes) (t : Nat) : List Instr := bs.map fun b => .rxByte b t

/-- `RX_BYTES [b0 b1 ... bk], t=T`. -/
def pseudoRxBytes (bs : Bytes) (t : Nat) (s : State) : Answer := execAll (rxBytes bs t) s

/-- `HANDSHAKE[.O] key, enableFlag, echo`: AUTH_BUILD, then SEND.R of its content, then AUTH_CHECK[.O]. -/
def pseudoHandshake (enableOutbound : Bool) (key : Bytes) (enableFlag : Byte) (echo : Bytes) (s : State) : Answer :=
  andThen (exec (.authBuild key enableFlag) s) (withOkBytes fun content s' =>
    andThen (exec (.send true content) s') (exec (.authCheck enableOutbound echo)))

end Sys2Proof.Machine
end

