-- ==== Sys2Proof/Safety.lean ====
section
/-! DEFINITION. The terms claims are stated in: what every reachable state satisfies (10_state.md), what the block may
output (30_encoding.md R121), and when a run counts (10_state.md R39; 60_exceptions.md R324). -/

namespace Sys2Proof.Machine

/-- No command has faulted: the premise a claim about a run takes (10_state.md R39; 60_exceptions.md R324). -/
def NoFault (s : State) : Prop := s.fault = none

/-- What holds of every state between commands. -/
structure Inv (s : State) : Prop where
  /-- The buffer is `bytes[rxTarget]` (10_state.md R33). -/
  bufLength : s.rxBuf.length = s.rxTarget
  /-- The position never passes the target (10_state.md R31). -/
  posInBuf : s.rxPos ≤ s.rxTarget
  /-- The target is 0 before the first frame, then one of 2, 18, ..., 1010 (10_state.md R32). -/
  targetShape : s.rxTarget = 0 ∨ ∃ n ≤ 63, s.rxTarget = 16 * n + 2
  /-- In AwaitData the header stands in the buffer, and there is room unless N = 0 (44_reassembler.md R232, R234). -/
  dataState : s.rxState = .awaitData →
    2 ≤ s.rxPos ∧ (s.rxPos < s.rxTarget ∨ s.rxTarget = 2) ∧
      s.rxBuf.getD 0 0 = startTag ∧ targetLength (s.rxBuf.getD 1 0) = s.rxTarget
  /-- The watchdog counter between commands (10_state.md R35). -/
  wdBound : s.wdCount ≤ wdLimit
  /-- With the credit free nothing is left in the queue (45_chunker.md R265, R266). -/
  creditFree : s.inFlight = false → s.txQueue = []
  /-- The queue holds units of 18 or 16 bytes on BLE and non-empty writes on SPP (10_state.md R37). -/
  queueUnits : ∀ u ∈ s.txQueue,
    match s.config.backend with
    | .ble => u.length = bleUnit ∨ u.length = bleFirstUnit
    | .spp => u ≠ []
  /-- Only the BLE chunker buffers a header (45_chunker.md R262). -/
  headerOnlyBle : s.config.backend = .spp → s.hdrBuf = none
  /-- A session is marked authenticated only with a challenge. DEDUCED from 46_session.md R301, R303 and
  R312, log entry 21. -/
  authHasChallenge : s.authOk = true → s.cmpValid = true
  /-- Outbound encryption is on only with a challenge. DEDUCED from 46_session.md R303 and R312, log
  entry 21. -/
  encOutHasChallenge : s.encOut = true → s.cmpValid = true
  /-- A fault on the result port stands in the sticky flag too (60_exceptions.md R322). -/
  faultKept : ∀ k, s.result = some (.fault k) → s.fault ≠ none

/-- What one output event may be (30_encoding.md R121): a `Data` event carries a whole payload region of `16N - 4` bytes,
a `TxUnit` one unit of the backend's form, an `Error` one of the two codes ISCF emits. -/
def LegalEvent (backend : Backend) : Event → Prop
  | .data p => ∃ n, 1 ≤ n ∧ n ≤ maxNAccept ∧ p.length = 16 * n - 4
  | .txUnit u =>
    match backend with
    | .ble => u.length = bleUnit ∨ u.length = bleFirstUnit
    | .spp => u ≠ []
  | .error c => c = watchdogCode ∨ c = writeFailedCode

/-- Every event so far is one the spec allows. -/
def OutputsLegal (s : State) : Prop := ∀ e ∈ s.events, LegalEvent s.config.backend e

/-- How many units an event list hands to the transport (45_chunker.md R271). -/
def unitCount (es : List Event) : Nat := es.countP fun e => match e with | .txUnit _ => true | _ => false

/-- The units an event list hands to the transport, in order (45_chunker.md R274). -/
def unitsOf (es : List Event) : List Bytes := es.filterMap fun e => match e with | .txUnit u => some u | _ => none

/-- The opcode of an instruction: bits 15..8 of its command word (30_encoding.md R90). -/
def opcode (i : Instr) : Byte := (encodeWord i).extractLsb' 8 8

/-! ### What a command leaves, written out field by field -/

/-- The state with `OK(v)` on the result port and nothing else changed. -/
def returned (v : Value) (s : State) : State := { s with result := some (.ok v) }

/-- The state a fault of kind `k` leaves: everything unchanged but the result port and, if it held `none`, the sticky
flag (60_exceptions.md R322). -/
def faulted (k : FaultKind) (s : State) : State :=
  { s with fault := if s.fault = none then some k else s.fault, result := some (.fault k) }

/-- The draw number `n` (from 0) the next commands take: what the host supplied, then free values (41_cipher.md R140). -/
def drawAt (s : State) (n : Nat) : Block :=
  s.entropy.getD n (Config.freeDraw (s.drawCount + (n - s.entropy.length)))

/-- The state after `n` draws. -/
def drawsTaken (n : Nat) (s : State) : State :=
  { s with entropy := s.entropy.drop n, drawCount := s.drawCount + (n - s.entropy.length) }

/-- The state once units are queued and the head of the queue is issued if the credit is free (45_chunker.md R265). -/
def queuedAndIssued (us : List Bytes) (s : State) : State :=
  match s.inFlight, s.txQueue ++ us with
  | false, u :: rest => { s with txQueue := rest, inFlight := true, events := s.events ++ [.txUnit u] }
  | _, q => { s with txQueue := q }

/-- The units of a frame of `2 + 16n` bytes on BLE: 18 bytes, then pieces of 16 (45_chunker.md R260). -/
def bleUnits (n : Nat) (frame : Bytes) : List Bytes :=
  (List.range n).map fun k => if k = 0 then frame.take 18 else (frame.drop (2 + 16 * k)).take 16

/-- The watchdog count after a byte that is no counted marker (44_reassembler.md R233). -/
def countAfterOther (s : State) : Nat := if s.config.wdPolicy = .consecutive then 0 else s.wdCount

/-! ### States the spec does not tell apart -/

/-- Two states that agree on everything but the bits the spec leaves unspecified and unobservable: `key`, `encChain` and
`decChain` while not `ready`, `cmp` while not `cmpValid`, and `iv` (70_reset_and_hazards.md R360). -/
structure SameObservable (s t : State) : Prop where
  restEqual : ({ t with key := s.key, encChain := s.encChain, decChain := s.decChain, iv := s.iv, cmp := s.cmp } : State)
    = s
  keyEqual : s.ready = true → t.key = s.key
  encEqual : s.ready = true → t.encChain = s.encChain
  decEqual : s.ready = true → t.decChain = s.decChain
  cmpEqual : s.cmpValid = true → t.cmp = s.cmp

end Sys2Proof.Machine
end

