-- ==== Sys2Proof/Certificates/Slice0/Obligations.lean ====
section
/-! DEFINITION. The statements about ISCF for the provers. Each docstring names the rules of spec/ it formalises. A
statement about every state holds in states no run reaches too, unless it takes `Inv`. -/

open Sys2Proof Sys2Proof.Machine

/-! ### Decoding -/

/-- Decoding the command of a well-formed instruction gives that instruction (30_encoding.md R90, R91, R94, R95). -/
def Obligations.DecodeOfEncodeReturnsInstruction : Prop :=
  ∀ i : Instr, WellFormed i → decode (encode i) = .ok i

/-- A command that decodes is the encoding of what it decodes to, and that is well formed: no two commands mean the same
(30_encoding.md R96; 92_eei_decisions.md D48: "with no aliases"). -/
def Obligations.DecodedCommandIsItsEncoding : Prop :=
  ∀ (c : Command) (i : Instr), decode c = .ok i → encode i = c ∧ WellFormed i

/-- A command is illegal exactly when its opcode is unassigned, a reserved bit is 1, or a modifier bit is 1 that its
opcode does not use; the step on it raises IllegalCommand and changes nothing else (30_encoding.md R96, with the opcodes
and modifiers of R94). -/
def Obligations.IllegalCommandExactlyByWord : Prop :=
  (∀ c : Command, decode c = .error .illegalCommand ↔
    (c.word.extractLsb' 8 8 ∉ ([0x01, 0x02, 0x03, 0x04, 0x10, 0x11, 0x12, 0x20, 0x21, 0x22, 0x30, 0x40, 0x41, 0x42,
        0x50, 0x51, 0x52, 0x53, 0x54] : List Byte) ∨
      c.word.extractLsb' 1 5 ≠ 0 ∨
      (c.word.getLsbD 7 = true ∧ c.word.extractLsb' 8 8 ∉ ([0x21, 0x52] : List Byte)) ∨
      (c.word.getLsbD 6 = true ∧ c.word.extractLsb' 8 8 ≠ 0x21) ∨
      (c.word.getLsbD 0 = true ∧ c.word.extractLsb' 8 8 ∉ ([0x20, 0x41, 0x51] : List Byte)))) ∧
  (∀ (s : State) (c : Command) (rest : List Command), s.pending = c :: rest → decode c = .error .illegalCommand →
    step s = .next (faulted .illegalCommand { s with pending := rest }))

/-- A command has a bad operand list exactly when its word is legal and the types of its operands, in order, are not
those its row asks for (30_encoding.md R91, R95). -/
def Obligations.BadOperandExactlyByTypes : Prop :=
  ∀ c : Command, decode c = .error .badOperand ↔
    ∃ r, rowOf c.word = some r ∧ c.operands.map Operand.type ≠ r.shape c.word

/-- The command words the spec's vectors list decode as listed (95_test_vectors.md, Command words). -/
def Obligations.ListedCommandWordsDecode : Prop :=
  ([0x0000, 0xFF00, 0x0102, 0x0180, 0x2101, 0x5240] : List Half).all (fun w => (rowOf w).isNone) = true ∧
  decode ⟨0x2001, [.byte 0x02, .byte 0x01, .bytes []]⟩ = .ok (.packetBuild 0x02 (some 0x01) []) ∧
  decode ⟨0x21C0, [.bytes [0x02, 0x01]]⟩ = .ok (.frameEncode true true [0x02, 0x01]) ∧
  decode ⟨0x5280, [.bytes [0x02, 0x01]]⟩ = .ok (.send true [0x02, 0x01]) ∧
  decode ⟨0x4101, []⟩ = .ok (.txWriteDone true) ∧
  decode ⟨0x5101, [.bytes [0xAA]]⟩ = .ok (.authCheck true [0xAA]) ∧
  decode ⟨0x3000, [.byte 0x55, .time 0]⟩ = .ok (.rxByte 0x55 0)

/-! ### The step -/

/-- A step runs the instruction its command decodes to, on the state whose port holds the commands after it
(60_exceptions.md R320). -/
def Obligations.StepRunsDecodedCommand : Prop :=
  ∀ (s : State) (c : Command) (rest : List Command) (i : Instr),
    s.pending = c :: rest → decode c = .ok i → step s = exec i { s with pending := rest }

/-- A command the decoder rejects raises IllegalCommand or BadOperand, and changes nothing else; with no command at the
port a step changes nothing (60_exceptions.md R322, R330, R342; the second part is the model's reading, log entry 2). -/
def Obligations.RejectedCommandRaisesItsFault : Prop :=
  (∀ (s : State) (c : Command) (rest : List Command), s.pending = c :: rest →
    (decode c = .error .illegalCommand → step s = .next (faulted .illegalCommand { s with pending := rest })) ∧
    (decode c = .error .badOperand → step s = .next (faulted .badOperand { s with pending := rest }))) ∧
  (∀ s : State, s.pending = [] → step s = .next s)

/-- Every step answers a next state: no command, no operand and no fault stops the block (60_exceptions.md R320, R324;
70_reset_and_hazards.md R361). -/
def Obligations.EveryStepAnswersNext : Prop :=
  ∀ s : State, ∃ t, step s = .next t

/-- A faulting command, one the decoder rejects included, leaves everything unchanged but the result port and the sticky
flag, which keeps the first kind; it emits no event (60_exceptions.md R322). -/
def Obligations.FaultingCommandChangesNothing : Prop :=
  (∀ (i : Instr) (s t : State) (k : FaultKind),
    exec i s = .next t → t.result = some (.fault k) → t = faulted k s) ∧
  (∀ (s t : State) (c : Command) (rest : List Command) (k : FaultKind), s.pending = c :: rest →
    step s = .next t → t.result = some (.fault k) → t = faulted k { s with pending := rest })

/-- The sticky flag records the first fault any command raised: after a command it is what it was, or, when it was
`none`, the kind of that command's FAULT result; nothing else writes it, SESSION_RESET included, and power-on reset leaves
`none` (10_state.md R39; 60_exceptions.md R321). -/
def Obligations.FirstFaultIsSticky : Prop :=
  (∀ s t : State, step s = .next t →
    (s.pending = [] → t.fault = s.fault) ∧
    (s.pending ≠ [] → t.fault =
      if s.fault ≠ none then s.fault
      else match t.result with
        | some (.fault k) => some k
        | _ => none)) ∧
  (∀ cfg : Config, (State.powerOn cfg).fault = none)

/-- Each state element is written only by the commands its rule names as writers, and no command writes the
configuration (10_state.md R22 to R38, R40). -/
def Obligations.ElementsHaveTheirWritersOnly : Prop :=
  ∀ (i : Instr) (s t : State), exec i s = .next t →
    t.config = s.config ∧ t.pending = s.pending ∧
    (t.key = s.key ∨ opcode i ∈ ([0x01, 0x50] : List Byte)) ∧
    (t.ready = s.ready ∨ opcode i ∈ ([0x01, 0x50, 0x53] : List Byte)) ∧
    (t.encChain = s.encChain ∨ opcode i ∈ ([0x01, 0x02, 0x21, 0x50, 0x52] : List Byte)) ∧
    (t.decChain = s.decChain ∨ opcode i ∈ ([0x01, 0x03, 0x22, 0x30, 0x42, 0x50, 0x51, 0x54] : List Byte)) ∧
    (t.iv = s.iv ∨ opcode i ∈ ([0x01, 0x50] : List Byte)) ∧
    (t.cmp = s.cmp ∨ opcode i ∈ ([0x50] : List Byte)) ∧
    (t.cmpValid = s.cmpValid ∨ opcode i ∈ ([0x50, 0x53] : List Byte)) ∧
    (t.encOut = s.encOut ∨ opcode i ∈ ([0x51, 0x53] : List Byte)) ∧
    (t.authOk = s.authOk ∨ opcode i ∈ ([0x50, 0x51, 0x53] : List Byte)) ∧
    ((t.rxState = s.rxState ∧ t.rxPos = s.rxPos ∧ t.rxTarget = s.rxTarget ∧ t.rxBuf = s.rxBuf ∧
        t.lastByteTime = s.lastByteTime ∧ t.wdCount = s.wdCount) ∨ opcode i ∈ ([0x30, 0x42, 0x53] : List Byte)) ∧
    (t.hdrBuf = s.hdrBuf ∨ opcode i ∈ ([0x40, 0x41, 0x53] : List Byte)) ∧
    ((t.txQueue = s.txQueue ∧ t.inFlight = s.inFlight) ∨ opcode i ∈ ([0x40, 0x41, 0x52, 0x53] : List Byte)) ∧
    ((t.entropy = s.entropy ∧ t.drawCount = s.drawCount) ∨ opcode i ∈ ([0x01, 0x50] : List Byte))

/-- Events are appended to one ordered sequence and never changed; only BLE_NOTIFY may emit more than one, and the events
of a command are of the kinds its family emits (20_memory.md R77; 60_exceptions.md R331). -/
def Obligations.EventsAreAppendedByKind : Prop :=
  ∀ (i : Instr) (s t : State), exec i s = .next t → ∃ es, t.events = s.events ++ es ∧
    (opcode i ≠ 0x42 → es.length ≤ 1) ∧
    (∀ e ∈ es, match e with
      | .data _ => opcode i ∈ ([0x30, 0x42, 0x54] : List Byte)
      | .txUnit _ => opcode i ∈ ([0x40, 0x41, 0x52] : List Byte)
      | .error _ => opcode i ∈ ([0x30, 0x41, 0x42] : List Byte))

/-! ### Reset and the invariant -/

/-- The values the spec gives for power-on reset, for every configuration (70_reset_and_hazards.md R360). The values of
key, encChain, decChain, iv and cmp, which R360 leaves unspecified, are not stated. -/
def Obligations.PowerOnResetValues : Prop :=
  ∀ cfg : Config,
    (State.powerOn cfg).config = cfg ∧ (State.powerOn cfg).ready = false ∧ (State.powerOn cfg).cmpValid = false ∧
    (State.powerOn cfg).encOut = false ∧ (State.powerOn cfg).authOk = false ∧
    (State.powerOn cfg).rxState = .awaitTag ∧ (State.powerOn cfg).rxPos = 0 ∧ (State.powerOn cfg).rxTarget = 0 ∧
    (State.powerOn cfg).rxBuf = [] ∧ (State.powerOn cfg).lastByteTime = none ∧ (State.powerOn cfg).wdCount = 0 ∧
    (State.powerOn cfg).hdrBuf = none ∧ (State.powerOn cfg).txQueue = [] ∧ (State.powerOn cfg).inFlight = false ∧
    (State.powerOn cfg).fault = none

/-- After power-on reset the invariant holds and every event so far (there is none) is legal. -/
def Obligations.ResetSatisfiesInvariant : Prop :=
  Inv State.reset ∧ OutputsLegal State.reset ∧ ∀ cfg : Config, Inv (State.powerOn cfg) ∧ OutputsLegal (State.powerOn cfg)

/-- Every step keeps the invariant: the reassembler's buffer, position and target fit each other (10_state.md R31 to R35;
44_reassembler.md R232, R234), a free credit leaves the queue empty (45_chunker.md R265, R266), queued units have the
backend's form and only BLE buffers a header (R261, R262), and a fault on the result port stands in the sticky flag
(60_exceptions.md R322). That `authOk` and `encOut` are true only with a challenge are the model's inferences, DEDUCED
from 46_session.md R301, R303 and R312 (log entry 21). -/
def Obligations.StepKeepsInvariant : Prop :=
  ∀ s t : State, Inv s → step s = .next t → Inv t

/-- From a state with the invariant every step emits only events the spec allows (30_encoding.md R121): payload regions of
`16N - 4` bytes with N in 1..17 (43_frame_codec.md R203), units of 18 or 16 bytes on BLE (45_chunker.md R260) and non-empty
units on SPP (45_chunker.md R262), and the two error codes (60_exceptions.md R326). -/
def Obligations.StepKeepsOutputsLegal : Prop :=
  ∀ s t : State, Inv s → OutputsLegal s → step s = .next t → OutputsLegal t

/-- No result and no event depends on the bits that reset leaves unspecified: states that differ in them alone stay so,
and answer alike (70_reset_and_hazards.md R360: "No rule reads them before a command writes them, so no result or event
depends on the choice"). -/
def Obligations.UnspecifiedBitsAreUnobservable : Prop :=
  ∀ s t : State, SameObservable s t →
    ∃ s' t', step s = .next s' ∧ step t = .next t' ∧ SameObservable s' t' ∧
      t'.result = s'.result ∧ t'.events = s'.events

/-! ### AES -/

/-- `AES_D(K, AES_E(K, b)) = b` (41_cipher.md R130), and so the other way round, which R304 uses. -/
def Obligations.AesDecryptInvertsEncrypt : Prop :=
  ∀ k b : Block, aesD k (aesE k b) = b ∧ aesE k (aesD k b) = b

/-- The two printed tables are what the formula gives: `SBOX[x] = A(inv(x))`, and INV_SBOX is its inverse permutation
(41_cipher.md R133). -/
def Obligations.SboxTablesFollowTheFormula : Prop :=
  ∀ x : Byte, sbox x = sboxAffine (ginv x) ∧ invSbox (sbox x) = x ∧ sbox (invSbox x) = x

/-- The FIPS-197 example of 41_cipher.md R136 and its inverse, and the round keys of V-AES-3. -/
def Obligations.AesExampleOfTheSpec : Prop :=
  let k := blockOf fun i => BitVec.ofNat 8 i
  let p := blockOf fun i => BitVec.ofNat 8 (17 * i)
  let c := blockOfBytes [0x69, 0xC4, 0xE0, 0xD8, 0x6A, 0x7B, 0x04, 0x30, 0xD8, 0xCD, 0xB7, 0x80, 0x70, 0xB4, 0xC5, 0x5A]
  aesE k p = c ∧ aesD k c = p ∧
    blockBytes (roundKey k 1) =
      [0xD6, 0xAA, 0x74, 0xFD, 0xD2, 0xAF, 0x72, 0xFA, 0xDA, 0xA6, 0x78, 0xF1, 0xD6, 0xAB, 0x76, 0xFE] ∧
    blockBytes (roundKey k 10) =
      [0x13, 0x11, 0x1D, 0x7F, 0xE3, 0x94, 0x4A, 0x17, 0xF3, 0x07, 0xA7, 0x8B, 0x4D, 0x2B, 0x30, 0xC5]

/-! ### The CBC streams -/

/-- Chaining across calls is invisible: for a split into `a` and `b` with `a` whole blocks, two calls return what one call
returns and leave the same chaining register, in both directions (41_cipher.md R149). -/
def Obligations.ChainingAcrossCallsIsInvisible : Prop :=
  ∀ (s : State) (a b : Bytes), a.length % 16 = 0 →
    s.encOutput a ++ (s.encAdvance a).encOutput b = s.encOutput (a ++ b) ∧
    (s.encAdvance a).encAdvance b = s.encAdvance (a ++ b) ∧
    s.decOutput a ++ (s.decAdvance a).decOutput b = s.decOutput (a ++ b) ∧
    (s.decAdvance a).decAdvance b = s.decAdvance (a ++ b)

/-- The decrypt stream returns the plaintext of what the encrypt stream made from the same chaining value, and the two
chaining values agree again afterwards (41_cipher.md R147, R141). -/
def Obligations.DecryptStreamInvertsEncryptStream : Prop :=
  ∀ (s : State) (data : Bytes), data.length % 16 = 0 → s.decChain = s.encChain →
    s.decOutput (s.encOutput data) = data ∧
    (s.decAdvance (s.encOutput data)).decChain = (s.encAdvance data).encChain

/-- Decryption from a wrong chaining value spoils the first block only, and the chaining register is right again after
any block (41_cipher.md R150). -/
def Obligations.WrongChainSpoilsFirstBlockOnly : Prop :=
  ∀ (k c c' : Block) (x : Block) (xs : List Block),
    cbcDecrypt k c (x :: xs) = blockXor (aesD k x) c :: cbcDecrypt k x xs ∧
    (cbcDecrypt k c (x :: xs)).tail = (cbcDecrypt k c' (x :: xs)).tail ∧
    (c ≠ c' → (cbcDecrypt k c (x :: xs)).head? ≠ (cbcDecrypt k c' (x :: xs)).head?) ∧
    lastBlock c (x :: xs) = lastBlock c' (x :: xs)

/-! ### Cipher commands -/

/-- CIPHER_INIT: with a 16-byte key it takes one draw, seeds both streams with it and returns it; with any other key it
answers ERROR(0x0500) and sets `ready` to false; nothing else changes (41_cipher.md R142). -/
def Obligations.CipherInitSeedsBothStreams : Prop :=
  ∀ (key : Bytes) (s : State),
    decode ⟨0x0100, [.bytes key]⟩ = .ok (.cipherInit key) ∧
    (key.length = 16 →
      exec (.cipherInit key) s = .next (returned (.bytes (blockBytes (drawAt s 0)))
        { drawsTaken 1 s with
          key := blockOfBytes key, iv := drawAt s 0, encChain := drawAt s 0, decChain := drawAt s 0
          ready := true })) ∧
    (key.length ≠ 16 → exec (.cipherInit key) s = .next { s with ready := false, result := some (.error 0x0500) })

/-- After a CIPHER_INIT or AUTH_BUILD whose key is not 16 bytes long only `ready` is changed, to false; then every
encrypting command (CIPHER_ENCRYPT, FRAME_ENCODE with `E`, SEND under the outbound flag) refuses with NotReady, and a
structurally right encrypted frame is CipherNotReady (41_cipher.md R143; for AUTH_BUILD 46_session.md R301). -/
def Obligations.BadKeyFailsClosed : Prop :=
  ∀ (key : Bytes) (enableFlag : Byte) (i : Instr) (s t : State), key.length ≠ 16 →
    i = .cipherInit key ∨ i = .authBuild key enableFlag → exec i s = .next t →
    t = { s with ready := false, result := some (.error 0x0500) } ∧
    (∀ data, exec (.cipherEncrypt data) t = .next (faulted .notReady t)) ∧
    (∀ r content, content ≠ [] → content.length ≤ 268 →
      exec (.frameEncode r true content) t = .next (faulted .notReady t)) ∧
    (∀ r content, t.config.specialChunkingMode = false → content ≠ [] → content.length ≤ 268 → t.encOut = true →
      exec (.send r content) t = .next (faulted .notReady t)) ∧
    (∀ frame n, n = (frame.getD 1 0 &&& 0x3F).toNat → 1 ≤ n → n ≤ 17 → frame.length = 2 + 16 * n →
      frame.getD 0 0 = 0x55 → (frame.getD 1 0).getLsbD 6 = true →
      exec (.frameDecode frame) t = .next { t with result := some (.corrupt .cipherNotReady) })

/-- CIPHER_ENCRYPT: NotReady before a successful init; NotAligned for data that are not whole blocks; otherwise the
ciphertext blocks `C_i = AES_E(K, P_i ⊕ C_{i-1})`, and the encrypt chain becomes the last of them. Nothing else changes
(41_cipher.md R146, with R141 and R144). -/
def Obligations.CipherEncryptIsChainedAes : Prop :=
  ∀ (data : Bytes) (s : State),
    decode ⟨0x0200, [.bytes data]⟩ = .ok (.cipherEncrypt data) ∧
    (s.ready = false → exec (.cipherEncrypt data) s = .next (faulted .notReady s)) ∧
    (s.ready = true → data.length % 16 ≠ 0 → exec (.cipherEncrypt data) s = .next (faulted .notAligned s)) ∧
    (s.ready = true → data.length % 16 = 0 →
      ∃ cs : List Block, cs.length = data.length / 16 ∧
        (∀ i < cs.length, cs.getD i s.encChain =
          aesE s.key (blockXor (blockOfBytes ((data.drop (16 * i)).take 16)) ((s.encChain :: cs).getD i s.encChain))) ∧
        exec (.cipherEncrypt data) s =
          .next (returned (.bytes (cs.flatMap blockBytes)) { s with encChain := cs.getLastD s.encChain }))

/-- CIPHER_DECRYPT: NotReady before a successful init; NotAligned for data that are not whole blocks; otherwise the
plaintext blocks `P_i = AES_D(K, C_i) ⊕ C_{i-1}`, and the decrypt chain becomes the last input block. Nothing else changes
(41_cipher.md R147, with R141 and R145). -/
def Obligations.CipherDecryptIsChainedAes : Prop :=
  ∀ (data : Bytes) (s : State),
    decode ⟨0x0300, [.bytes data]⟩ = .ok (.cipherDecrypt data) ∧
    (s.ready = false → exec (.cipherDecrypt data) s = .next (faulted .notReady s)) ∧
    (s.ready = true → data.length % 16 ≠ 0 → exec (.cipherDecrypt data) s = .next (faulted .notAligned s)) ∧
    (s.ready = true → data.length % 16 = 0 →
      ∃ cs ps : List Block, cs.flatMap blockBytes = data ∧ ps.length = cs.length ∧
        (∀ i < cs.length, ps.getD i s.decChain =
          blockXor (aesD s.key (cs.getD i s.decChain)) ((s.decChain :: cs).getD i s.decChain)) ∧
        exec (.cipherDecrypt data) s =
          .next (returned (.bytes (ps.flatMap blockBytes)) { s with decChain := cs.getLastD s.decChain }))

/-- Before a successful init the five commands that use the cipher raise NotReady, once the checks before that one pass
(70_reset_and_hazards.md R370; the check orders of 60_exceptions.md R330), and so they do right after SESSION_RESET. -/
def Obligations.CipherMisuseFaults : Prop :=
  (∀ s : State, s.ready = false →
    (∀ data, exec (.cipherEncrypt data) s = .next (faulted .notReady s)) ∧
    (∀ data, exec (.cipherDecrypt data) s = .next (faulted .notReady s)) ∧
    (∀ r content, content ≠ [] → content.length ≤ 268 →
      exec (.frameEncode r true content) s = .next (faulted .notReady s)) ∧
    (∀ o echo, s.cmpValid = true → echo.length = 16 →
      exec (.authCheck o echo) s = .next (faulted .notReady s)) ∧
    (∀ r content, s.config.specialChunkingMode = false → content ≠ [] → content.length ≤ 268 → s.encOut = true →
      exec (.send r content) s = .next (faulted .notReady s))) ∧
  (∀ cfg : Config, (State.powerOn cfg).ready = false) ∧
  (∀ s t : State, exec .sessionReset s = .next t → t.ready = false)

/-- CIPHER_IS_READY returns 0x01 or 0x00 by `ready` and changes nothing else: 0x00 after power-on reset, after a failed
CIPHER_INIT and after SESSION_RESET, 0x01 after a successful CIPHER_INIT or AUTH_BUILD (41_cipher.md R148). -/
def Obligations.CipherIsReadyReportsReady : Prop :=
  decode ⟨0x0400, []⟩ = .ok .cipherIsReady ∧
  (∀ s : State, exec .cipherIsReady s = .next (returned (.byte (if s.ready then 0x01 else 0x00)) s)) ∧
  (∀ cfg : Config, (State.powerOn cfg).ready = false) ∧
  (∀ (key : Bytes) (s t : State), exec (.cipherInit key) s = .next t → t.ready = decide (key.length = 16)) ∧
  (∀ (key : Bytes) (f : Byte) (s t : State), exec (.authBuild key f) s = .next t → t.ready = decide (key.length = 16)) ∧
  (∀ s t : State, exec .sessionReset s = .next t → t.ready = false)

/-! ### CRC32 -/

/-- CRC32 returns the CRC of any byte string and changes nothing else (42_crc.md R172), with the reference values of
42_crc.md R171. -/
def Obligations.Crc32CommandReturnsCrc : Prop :=
  (∀ (data : Bytes) (s : State),
    decode ⟨0x1000, [.bytes data]⟩ = .ok (.crc32 data) ∧
    exec (.crc32 data) s = .next (returned (.word (crc32 data)) s)) ∧
  crc32 [0x31, 0x32, 0x33, 0x34, 0x35, 0x36, 0x37, 0x38, 0x39] = 0xCBF43926 ∧ crc32 [] = 0x00000000 ∧
  crc32 (zeros 12) = 0x7BD5C66F ∧ crc32 ([0x02, 0x01] ++ zeros 10) = 0x56608730

/-- CRC_STAMP writes the big-endian CRC of `region[4..]` over the first four bytes; CRC_VALIDATE answers whether those
four bytes are it; a region under 4 bytes is BadOperand for both; nothing else changes (42_crc.md R173, R174). -/
def Obligations.CrcStampAndValidate : Prop :=
  ∀ (region : Bytes) (s : State),
    decode ⟨0x1100, [.bytes region]⟩ = .ok (.crcStamp region) ∧
    decode ⟨0x1200, [.bytes region]⟩ = .ok (.crcValidate region) ∧
    (region.length < 4 →
      exec (.crcStamp region) s = .next (faulted .badOperand s) ∧
      exec (.crcValidate region) s = .next (faulted .badOperand s)) ∧
    (4 ≤ region.length →
      exec (.crcStamp region) s = .next (returned (.bytes (be32 (crc32 (region.drop 4)) ++ region.drop 4)) s) ∧
      exec (.crcValidate region) s = .next (returned (.byte
        (if region.take 4 = be32 (crc32 (region.drop 4)) then 0x01 else 0x00)) s))

/-- Every single-bit error in a region with a right CRC is detected, in the CRC field or after it (42_crc.md R175, the part
on plaintext bodies). -/
def Obligations.CrcDetectsEverySingleBitError : Prop :=
  ∀ (region : Bytes) (i j : Nat) (s : State), 4 ≤ region.length → i < region.length → j < 8 →
    region.take 4 = be32 (crc32 (region.drop 4)) →
    exec (.crcValidate (region.set i (region.getD i 0 ^^^ BitVec.ofNat 8 (2 ^ j)))) s = .next (returned (.byte 0x00) s)

/-! ### The frame codec -/

/-- `N(L)` is the smallest count whose sub-packets hold the content and its CRC, and lies in 1..17 for legal content: 1 up
to 12 bytes, and k exactly from `16k - 19` to `16k - 4` bytes for k from 2 (43_frame_codec.md R191). -/
def Obligations.SubpacketCountIsTheSmallest : Prop :=
  ∀ len : Nat, 1 ≤ len → len ≤ 268 →
    1 ≤ subpacketsFor len ∧ subpacketsFor len ≤ 17 ∧ len + 4 ≤ 16 * subpacketsFor len ∧
    (∀ n, len + 4 ≤ 16 * n → subpacketsFor len ≤ n) ∧
    (subpacketsFor len = 1 ↔ len ≤ 12) ∧
    (∀ k, 2 ≤ k → k ≤ 17 → (subpacketsFor len = k ↔ 16 * k - 19 ≤ len ∧ len ≤ 16 * k - 4))

/-- PACKET_BUILD returns command byte, param byte if it has one, and data, and changes nothing else; over 268 bytes it is
ContentLength, that is with more than 266 data bytes with a param byte and 267 without (43_frame_codec.md R200). -/
def Obligations.PacketBuildLaysOutContent : Prop :=
  ∀ (cmd param : Byte) (data : Bytes) (s : State),
    decode ⟨0x2000, [.byte cmd, .bytes data]⟩ = .ok (.packetBuild cmd none data) ∧
    decode ⟨0x2001, [.byte cmd, .byte param, .bytes data]⟩ = .ok (.packetBuild cmd (some param) data) ∧
    exec (.packetBuild cmd none data) s =
      .next (if data.length > 267 then faulted .contentLength s else returned (.bytes (cmd :: data)) s) ∧
    exec (.packetBuild cmd (some param) data) s =
      .next (if data.length > 266 then faulted .contentLength s else returned (.bytes (cmd :: param :: data)) s)

/-- FRAME_ENCODE without `E` returns tag, LEN_FLAGS, big-endian CRC of the padded payload region and that region, and
changes nothing else (43_frame_codec.md R192, R201; 30_encoding.md R100, R101). -/
def Obligations.PlainFrameEncodeBytes : Prop :=
  ∀ (r : Bool) (content : Bytes) (s : State) (n : Nat) (region : Bytes),
    content ≠ [] → content.length ≤ 268 → n = (content.length + 4 + 15) / 16 →
    region = content ++ zeros (16 * n - 4 - content.length) →
    exec (.frameEncode r false content) s = .next (returned (.bytes
      (0x55 :: BitVec.ofNat 8 (n + if r then 128 else 0) :: (be32 (crc32 region) ++ region))) s)

/-- FRAME_ENCODE with `E`, when ready, returns the same header with bit 6 set and the CBC ciphertext of the whole body, and
moves the encrypt chain to its last block; nothing else changes (43_frame_codec.md R201; 41_cipher.md R144). -/
def Obligations.EncryptedFrameEncodeBytes : Prop :=
  ∀ (r : Bool) (content : Bytes) (s : State) (n : Nat) (region : Bytes) (cs : List Block),
    s.ready = true → content ≠ [] → content.length ≤ 268 → n = (content.length + 4 + 15) / 16 →
    region = content ++ zeros (16 * n - 4 - content.length) →
    cs = cbcEncrypt s.key s.encChain (blocksOf (be32 (crc32 region) ++ region)) →
    exec (.frameEncode r true content) s = .next (returned (.bytes
      (0x55 :: BitVec.ofNat 8 (n + 64 + if r then 128 else 0) :: bytesOf cs))
      { s with encChain := lastBlock s.encChain cs }) ∧
    cs.length = n

/-- Content of no bytes or of more than 268 is ContentLength, for FRAME_ENCODE and for SEND outside the refused mode
(43_frame_codec.md R207; 46_session.md R306). -/
def Obligations.IllegalContentFaults : Prop :=
  ∀ (r e : Bool) (content : Bytes) (s : State), content = [] ∨ 268 < content.length →
    exec (.frameEncode r e content) s = .next (faulted .contentLength s) ∧
    (s.config.specialChunkingMode = false → exec (.send r content) s = .next (faulted .contentLength s))

/-- FRAME_DECODE, check by check in its order, with every result and the state it leaves: the decrypt chain moves exactly
when a structurally right encrypted frame meets a ready cipher, whether or not the CRC then matches (43_frame_codec.md
R203, R205). -/
def Obligations.FrameDecodeChecksInOrder : Prop :=
  ∀ (frame : Bytes) (s : State) (n : Nat) (body plain : Bytes), n = (frame.getD 1 0 &&& 0x3F).toNat →
    body = frame.drop 2 → plain = (if (frame.getD 1 0).getLsbD 6 then s.decOutput body else body) →
    decode ⟨0x2200, [.bytes frame]⟩ = .ok (.frameDecode frame) ∧
    exec (.frameDecode frame) s = .next
      (if frame.length < 2 then { s with result := some (.corrupt .invalidLength) }
      else if frame.getD 0 0 ≠ 0x55 then { s with result := some (.corrupt .invalidHeader) }
      else if n = 0 ∨ n > 17 then { s with result := some (.corrupt .invalidLength) }
      else if frame.length ≠ 2 + 16 * n then { s with result := some (.corrupt .invalidLength) }
      else if (frame.getD 1 0).getLsbD 6 = true ∧ s.ready = false then
        { s with result := some (.corrupt .cipherNotReady) }
      else
        { s with
          decChain := if (frame.getD 1 0).getLsbD 6 then blockOfBytes (body.drop (16 * (n - 1))) else s.decChain
          result := some (if plain.take 4 = be32 (crc32 (plain.drop 4)) then .ok (.bytes (plain.drop 4))
            else .corrupt .crcMismatch) })

/-- The round trip: decoding an encoded frame returns the content followed by its padding, for every legal content and
every `R`; with `E`, when the cipher is ready and the decrypt chain is where the encrypt chain was (43_frame_codec.md
R204). -/
def Obligations.FrameDecodeInvertsFrameEncode : Prop :=
  ∀ (r e : Bool) (content : Bytes) (s t u : State) (frame : Bytes),
    content ≠ [] → content.length ≤ 268 → (e = true → s.ready = true ∧ s.decChain = s.encChain) →
    exec (.frameEncode r e content) s = .next t → t.result = some (.ok (.bytes frame)) →
    exec (.frameDecode frame) t = .next u →
    u.result = some (.ok (.bytes (content ++ zeros (16 * ((content.length + 19) / 16) - 4 - content.length)))) ∧
    (e = true → u.decChain = u.encChain)

/-! ### The reassembler -/

/-- RX_BYTE, transition by transition: staleness first, then the state's own transition, with everything it writes; the
frame it completes goes to `RxFrame` with the state back in AwaitTag (44_reassembler.md R231 to R236). -/
def Obligations.RxByteTransitions : Prop :=
  ∀ (b : Byte) (t : Nat) (s s0 : State),
    s0 = { s with
      lastByteTime := some t
      rxState := if s.lastByteTime.any (fun l => decide (t > l + 3000)) then .awaitTag else s.rxState } →
    (∀ w : BitVec 64, decode ⟨0x3000, [.byte b, .time w]⟩ = .ok (.rxByte b w.toNat)) ∧
    exec (.rxByte b t) s = .next (returned (.bytes [])
      (match s0.rxState with
      | .awaitTag =>
        if b = 0x55 then { s0 with rxState := .awaitLength, wdCount := countAfterOther s }
        else if b = 0xAF then
          if s.wdCount + 1 > 1024 then { s0 with wdCount := 0, events := s.events ++ [.error 0x0200] }
          else { s0 with wdCount := s.wdCount + 1 }
        else { s0 with wdCount := countAfterOther s }
      | .awaitLength =>
        { s0 with
          rxTarget := (b &&& 0x3F).toNat * 16 + 2
          rxBuf := 0x55 :: b :: zeros ((b &&& 0x3F).toNat * 16)
          rxPos := 2, rxState := .awaitData, wdCount := countAfterOther s }
      | .awaitData =>
        if s.rxPos ≥ s.rxTarget then { s0 with rxState := .awaitTag, wdCount := countAfterOther s }
        else if s.rxPos + 1 = s.rxTarget then
          State.receiveFrame (s.rxBuf.set s.rxPos b)
            { s0 with
              rxBuf := s.rxBuf.set s.rxPos b, rxPos := s.rxPos + 1, rxState := .awaitTag
              wdCount := countAfterOther s }
        else
          { s0 with rxBuf := s.rxBuf.set s.rxPos b, rxPos := s.rxPos + 1, wdCount := countAfterOther s }))

/-- RX_FRAME completes on every operand and in every state, and FRAME_DECODE with it: `Data` exactly when FRAME_DECODE
returns `OK`, nothing but the decrypt chain otherwise. It touches neither the reassembler nor anything FRAME_DECODE does
not, and is the function the reassembler calls (46_session.md R309: "Exceptions: none"). -/
def Obligations.RxFrameEmitsDecodedPayload : Prop :=
  ∀ (frame : Bytes) (s : State),
    decode ⟨0x5400, [.bytes frame]⟩ = .ok (.rxFrame frame) ∧
    exec (.rxFrame frame) s = .next (returned (.bytes []) (State.receiveFrame frame s)) ∧
    (∃ t, exec (.frameDecode frame) s = .next t ∧
      ((∃ p, t.result = some (.ok (.bytes p))) ∨ ∃ r, t.result = some (.corrupt r))) ∧
    (∀ t, exec (.frameDecode frame) s = .next t →
      (∀ p, t.result = some (.ok (.bytes p)) →
        exec (.rxFrame frame) s =
          .next { s with decChain := t.decChain, events := s.events ++ [.data p], result := some (.ok (.bytes [])) }) ∧
      (∀ r, t.result = some (.corrupt r) →
        exec (.rxFrame frame) s = .next { s with decChain := t.decChain, result := some (.ok (.bytes [])) }))

/-- BLE_NOTIFY always completes, has the effect of RX_BYTE on each byte in order at the same time, and for an empty value
changes nothing but the result port (45_chunker.md R270; 30_encoding.md R98, RX_BYTES). -/
def Obligations.BleNotifyIsRxByteInOrder : Prop :=
  (∀ (value : Bytes) (w : BitVec 64), decode ⟨0x4200, [.bytes value, .time w]⟩ = .ok (.bleNotify value w.toNat)) ∧
  (∀ (value : Bytes) (t : Nat) (s : State),
    ∃ u, exec (.bleNotify value t) s = .next u ∧ u.result = some (.ok (.bytes []))) ∧
  (∀ (t : Nat) (s : State), exec (.bleNotify [] t) s = .next (returned (.bytes []) s)) ∧
  (∀ (b : Byte) (value : Bytes) (t : Nat) (s s' u : State),
    exec (.rxByte b t) s = .next s' → exec (.bleNotify value t) s' = .next u →
    exec (.bleNotify (b :: value) t) s = .next u) ∧
  (∀ (value : Bytes) (t : Nat) (s : State), value ≠ [] →
    pseudoRxBytes value t s = exec (.bleNotify value t) s)

/-- A whole frame's bytes, from AwaitTag, are assembled and dispatched once and in full, whatever they contain: the
reassembler completes structurally (44_reassembler.md R236, R237; 45_chunker.md R270). With N = 0 the byte after the length
byte is discarded, nothing is dispatched, and the reassembler is back in AwaitTag (R234, R239). -/
def Obligations.WholeFrameIsDispatchedOnce : Prop :=
  (∀ (lb x : Byte) (t : Nat) (s : State), s.rxState = .awaitTag → (lb &&& 0x3F).toNat = 0 →
    exec (.bleNotify [0x55, lb, x] t) s = .next (returned (.bytes [])
      { s with
        rxPos := 2, rxTarget := 2, rxBuf := [0x55, lb]
        lastByteTime := some t, wdCount := countAfterOther s })) ∧
  ∀ (lb : Byte) (body : Bytes) (t n : Nat) (s : State), s.rxState = .awaitTag →
    n = (lb &&& 0x3F).toNat → 1 ≤ n → body.length = 16 * n →
    exec (.bleNotify (0x55 :: lb :: body) t) s = .next (returned (.bytes [])
      (State.receiveFrame (0x55 :: lb :: body)
        { s with
          rxPos := 16 * n + 2, rxTarget := 16 * n + 2, rxBuf := 0x55 :: lb :: body
          lastByteTime := some t, wdCount := countAfterOther s }))

/-- A byte after a gap of more than 3000 ms drops the partial frame in silence and is processed in AwaitTag; after exactly
3000 ms, after an earlier timestamp, and as the first byte since reset or SESSION_RESET it is not stale
(44_reassembler.md R235). -/
def Obligations.StaleByteRestartsInAwaitTag : Prop :=
  ∀ (b : Byte) (t : Nat) (s : State),
    (∀ l, s.lastByteTime = some l → l + 3000 < t →
      exec (.rxByte b t) s = exec (.rxByte b t) { s with rxState := .awaitTag }) ∧
    (∀ l, s.lastByteTime = some l → t ≤ l + 3000 →
      exec (.rxByte b t) s = exec (.rxByte b t) { s with lastByteTime := none }) ∧
    (s.lastByteTime = none → s.rxState = .awaitLength → ∀ u, exec (.rxByte b t) s = .next u →
      u.rxState = .awaitData ∧ u.rxBuf.getD 1 0 = b) ∧
    (∀ u, exec (.rxByte b t) s = .next u → u.lastByteTime = some t)

/-- The watchdog: up to 1024 markers in AwaitTag from a count of 0 raise nothing, and the 1025th raises exactly one
HardwareWatchdogReset and sets the count to 0, under either policy (44_reassembler.md R233). -/
def Obligations.WatchdogFiresOnMarker1025 : Prop :=
  ∀ (t : Nat) (s : State), s.rxState = .awaitTag → s.wdCount = 0 →
    (∀ n, 1 ≤ n → n ≤ 1024 → exec (.bleNotify (List.replicate n 0xAF) t) s = .next (returned (.bytes [])
      { s with lastByteTime := some t, wdCount := n })) ∧
    exec (.bleNotify (List.replicate 1025 0xAF) t) s = .next (returned (.bytes [])
      { s with lastByteTime := some t, wdCount := 0, events := s.events ++ [.error 0x0200] })

/-! ### The chunker -/

/-- TX_WRITE of a whole frame of `2 + 16n` bytes on BLE, with no header pending, queues its n units (18 bytes, then 16
each) and issues the head of the queue if the credit is free; nothing else changes (45_chunker.md R260, R262, R265). -/
def Obligations.TxWriteQueuesFrameUnits : Prop :=
  ∀ (w : Bytes) (n : Nat) (s : State), s.config.backend = .ble → s.config.specialChunkingMode = false →
    s.hdrBuf = none → 1 ≤ n → w.length = 2 + 16 * n →
    exec (.txWrite w) s = .next (returned (.bytes []) (queuedAndIssued (bleUnits n w) s))

/-- TX_WRITE of a 2-byte header and then of its body gives the units of the whole frame; a body without a header gives
plain 16-byte units (45_chunker.md R262). -/
def Obligations.HeaderThenBodyEqualsWholeFrame : Prop :=
  ∀ (h0 h1 : Byte) (body : Bytes) (n : Nat) (s t : State), s.config.backend = .ble →
    s.config.specialChunkingMode = false → s.hdrBuf = none → s.txQueue = [] ∨ s.inFlight = true → 1 ≤ n →
    body.length = 16 * n →
    exec (.txWrite [h0, h1]) s = .next (returned (.bytes []) { s with hdrBuf := some (h0, h1) }) ∧
    (exec (.txWrite [h0, h1]) s = .next t →
      exec (.txWrite body) t = exec (.txWrite (h0 :: h1 :: body)) s) ∧
    exec (.txWrite body) s = .next (returned (.bytes []) (queuedAndIssued
      ((List.range n).map fun k => (body.drop (16 * k)).take 16) s))

/-- TX_WRITE on SPP: a whole non-empty write is one unit under the same single credit; an empty one is BadWriteLength
(45_chunker.md R261, R262). -/
def Obligations.SppWriteIsOneUnit : Prop :=
  ∀ (w : Bytes) (s : State), s.config.backend = .spp → s.config.specialChunkingMode = false →
    exec (.txWrite w) s =
      .next (if w = [] then faulted .badWriteLength s else returned (.bytes []) (queuedAndIssued [w] s))

/-- The faults of TX_WRITE, and those of SEND that concern the chunker: Refused in the special chunking mode; on BLE
BadWriteLength for a length that is not 2, 16k or 16k + 2, and HeaderPending for a header, a whole frame or a legal SEND
while a header is buffered (45_chunker.md R262, R272; 46_session.md R306). -/
def Obligations.ChunkerFaults : Prop :=
  ∀ (s : State),
    (∀ w, decode ⟨0x4000, [.bytes w]⟩ = .ok (.txWrite w)) ∧
    (s.config.specialChunkingMode = true → ∀ r w,
      exec (.txWrite w) s = .next (faulted .refused s) ∧ exec (.send r w) s = .next (faulted .refused s)) ∧
    (s.config.specialChunkingMode = false → s.config.backend = .ble →
      (∀ w, (w.length = 0 ∨ w.length = 1 ∨ (2 < w.length ∧ w.length < 16) ∨ (w.length % 16 ≠ 0 ∧ w.length % 16 ≠ 2)) →
        exec (.txWrite w) s = .next (faulted .badWriteLength s)) ∧
      (s.hdrBuf ≠ none →
        (∀ w, w.length % 16 = 2 → exec (.txWrite w) s = .next (faulted .headerPending s)) ∧
        (∀ r content, content ≠ [] → content.length ≤ 268 → (s.encOut = true → s.ready = true) →
          exec (.send r content) s = .next (faulted .headerPending s))))

/-- TX_WRITE_DONE: SpuriousCompletion with no write in flight; with one, success frees the credit and issues the next unit
if there is one, and failure discards the queue and the buffered header and emits Error(0x0100) (45_chunker.md R266). -/
def Obligations.TxWriteDoneReleasesCredit : Prop :=
  decode ⟨0x4100, []⟩ = .ok (.txWriteDone false) ∧ decode ⟨0x4101, []⟩ = .ok (.txWriteDone true) ∧
  (∀ s : State, s.inFlight = false → ∀ ok, exec (.txWriteDone ok) s = .next (faulted .spuriousCompletion s)) ∧
  (∀ s : State, s.inFlight = true →
    exec (.txWriteDone true) s = .next (returned (.bytes []) (queuedAndIssued [] { s with inFlight := false })) ∧
    exec (.txWriteDone false) s = .next (returned (.bytes [])
      { s with inFlight := false, txQueue := [], hdrBuf := none, events := s.events ++ [.error 0x0100] }))

/-- The single credit, command by command: the units a command hands to the transport, and the one in flight before it,
are the one in flight after it and the one a completion accepted without fault accounts for (45_chunker.md R271).
SESSION_RESET, which forgets the unit in flight, is left out. -/
def Obligations.SingleCreditIsConserved : Prop :=
  ∀ (i : Instr) (s t : State), exec i s = .next t → i ≠ .sessionReset →
    unitCount t.events + s.inFlight.toNat =
      unitCount s.events + t.inFlight.toNat +
        (if opcode i = 0x41 ∧ s.inFlight = true then 1 else 0)

/-- Order: the units handed to the transport followed by those queued only ever grow at the tail, and only TX_WRITE and
SEND add to them, except that a failed completion and SESSION_RESET discard what is queued (45_chunker.md R273, R274;
20_memory.md R76). -/
def Obligations.UnitsLeaveInQueueOrder : Prop :=
  ∀ (i : Instr) (s t : State), exec i s = .next t →
    (i ≠ .sessionReset → i ≠ .txWriteDone false →
      ∃ us, unitsOf t.events ++ t.txQueue = unitsOf s.events ++ s.txQueue ++ us ∧
        (opcode i ≠ 0x40 → opcode i ≠ 0x52 → us = [])) ∧
    (i = .sessionReset ∨ i = .txWriteDone false → unitsOf t.events = unitsOf s.events)

/-! ### The session -/

/-- AUTH_BUILD: with a 16-byte key three draws in order, the cipher seeded, the challenge block encrypted as the first
block of the stream, the compare blob kept, and the 50-byte content returned; with any other key ERROR(0x0500) and `ready`
false. Nothing else changes (46_session.md R301; 30_encoding.md R105). -/
def Obligations.AuthBuildMakesAuthPacket : Prop :=
  ∀ (key : Bytes) (enableFlag : Byte) (s : State) (k v r c ech : Block),
    k = blockOfBytes key → v = drawAt s 0 → r = drawAt s 1 → c = drawAt s 2 →
    ech = aesE k (blockXor
      (blockOfBytes (be32 (crc32 ((blockBytes r).drop 4)) ++ (blockBytes r).drop 4)) v) →
    decode ⟨0x5000, [.bytes key, .byte enableFlag]⟩ = .ok (.authBuild key enableFlag) ∧
    (key.length = 16 → exec (.authBuild key enableFlag) s = .next (returned
      (.bytes (0x11 :: enableFlag :: (blockBytes v ++ blockBytes ech ++ blockBytes c)))
      { drawsTaken 3 s with
        key := k, iv := v, encChain := ech, decChain := v, ready := true
        cmp := c, cmpValid := true, authOk := false })) ∧
    (key.length ≠ 16 →
      exec (.authBuild key enableFlag) s = .next { s with ready := false, result := some (.error 0x0500) })

/-- AUTH_CHECK, check by check: the echo is decrypted with the decrypt stream, which moves whether or not it is accepted;
on equality with the compare blob the outbound flag takes `O` and the session is authenticated, otherwise it is not
(46_session.md R303). -/
def Obligations.AuthCheckComparesDecryptedEcho : Prop :=
  ∀ (o : Bool) (echo : Bytes) (s : State),
    decode ⟨if o then 0x5101 else 0x5100, [.bytes echo]⟩ = .ok (.authCheck o echo) ∧
    exec (.authCheck o echo) s = .next
      (if s.cmpValid = false then faulted .noChallenge s
      else if echo.length ≠ 16 then faulted .badOperand s
      else if s.ready = false then faulted .notReady s
      else if blockXor (aesD s.key (blockOfBytes echo)) s.decChain = s.cmp then
        returned (.byte 0x01) { s with decChain := blockOfBytes echo, encOut := o, authOk := true }
      else returned (.byte 0x00) { s with decChain := blockOfBytes echo, authOk := false })

/-- Exactly one 16-byte echo is accepted when no encrypted frame has been decrypted since AUTH_BUILD:
`AES_E(key, cmp ⊕ iv)` (46_session.md R304). -/
def Obligations.ExactlyOneEchoIsAccepted : Prop :=
  ∀ (o : Bool) (echo : Bytes) (s t : State), s.cmpValid = true → s.ready = true → s.decChain = s.iv →
    echo.length = 16 → exec (.authCheck o echo) s = .next t →
    (t.result = some (.ok (.byte 0x01)) ↔ echo = blockBytes (aesE s.key (blockXor s.cmp s.iv)))

/-- After AUTH_BUILD and the echo of a peer that seeds its streams with the received IV, the check accepts, and each
chaining register is the peer's of the other direction: the encrypted challenge block, and the echo (46_session.md R305;
the peer is the spec's inference, I24). -/
def Obligations.HandshakeSynchronisesChains : Prop :=
  ∀ (key : Bytes) (enableFlag : Byte) (o : Bool) (s t u : State) (echo : Block), key.length = 16 →
    exec (.authBuild key enableFlag) s = .next t → echo = aesE (blockOfBytes key) (blockXor t.cmp t.iv) →
    exec (.authCheck o (blockBytes echo)) t = .next u →
    t.result = some (.ok (.bytes (0x11 :: enableFlag ::
      (blockBytes t.iv ++ blockBytes t.encChain ++ blockBytes t.cmp)))) ∧
    u.result = some (.ok (.byte 0x01)) ∧ u.encOut = o ∧ u.authOk = true ∧
    u.encChain = t.encChain ∧ u.decChain = echo

/-- SEND, check by check: Refused, ContentLength, NotReady, HeaderPending; otherwise the frame FRAME_ENCODE makes with `E`
= the outbound flag is queued, as BLE units or as one SPP unit, and the head of the queue issued if the credit is free;
only an encrypted frame moves the encrypt chain (46_session.md R306; 45_chunker.md R260, R265). -/
def Obligations.SendQueuesEncodedFrame : Prop :=
  ∀ (r : Bool) (content : Bytes) (s : State),
    decode ⟨if r then 0x5280 else 0x5200, [.bytes content]⟩ = .ok (.send r content) ∧
    (s.config.specialChunkingMode = true → exec (.send r content) s = .next (faulted .refused s)) ∧
    (s.config.specialChunkingMode = false →
      (content = [] ∨ 268 < content.length → exec (.send r content) s = .next (faulted .contentLength s)) ∧
      (content ≠ [] → content.length ≤ 268 →
        (s.encOut = true ∧ s.ready = false → exec (.send r content) s = .next (faulted .notReady s)) ∧
        ((s.encOut = true → s.ready = true) →
          (s.config.backend = .ble ∧ s.hdrBuf ≠ none →
            exec (.send r content) s = .next (faulted .headerPending s)) ∧
          ((s.config.backend = .ble → s.hdrBuf = none) →
            ∃ (t : State) (frame : Bytes), exec (.frameEncode r s.encOut content) s = .next t ∧
              t.result = some (.ok (.bytes frame)) ∧
              exec (.send r content) s = .next (returned (.bytes []) (queuedAndIssued
                (if s.config.backend = .ble then bleUnits ((content.length + 19) / 16) frame else [frame])
                { s with encChain := t.encChain }))))))

/-- SESSION_RESET, field by field: the session flags, the reassembler and the chunker are cleared; the key, the chains, the
IV, the compare blob and the sticky fault stay; no event is emitted (46_session.md R312). -/
def Obligations.SessionResetClearsSession : Prop :=
  decode ⟨0x5300, []⟩ = .ok .sessionReset ∧
  ∀ s : State, exec .sessionReset s = .next
    { s with
      ready := false, cmpValid := false, encOut := false, authOk := false
      rxState := .awaitTag, rxPos := 0, rxTarget := 0, rxBuf := [], lastByteTime := none, wdCount := 0
      hdrBuf := none, txQueue := [], inFlight := false, result := some (.ok (.bytes [])) }

/-- A SESSION_RESET right after power-on reset changes nothing but the result port, and it never clears the sticky fault
(70_reset_and_hazards.md R362). -/
def Obligations.SessionResetAfterPowerOnIsIdle : Prop :=
  (∀ cfg : Config, exec .sessionReset (State.powerOn cfg) = .next (returned (.bytes []) (State.powerOn cfg))) ∧
  (∀ s t : State, exec .sessionReset s = .next t → t.fault = s.fault)

/-- A plain frame comes back whole: the bytes FRAME_ENCODE makes of legal content, received in AwaitTag in one
notification, emit exactly one event, the content followed by its padding (43_frame_codec.md R204; 44_reassembler.md R236,
R237; 46_session.md R309). -/
def Obligations.PlainFrameLoopsBackAsData : Prop :=
  ∀ (r : Bool) (content frame : Bytes) (time : Nat) (s t u : State), s.rxState = .awaitTag →
    content ≠ [] → content.length ≤ 268 →
    exec (.frameEncode r false content) s = .next t → t.result = some (.ok (.bytes frame)) →
    exec (.bleNotify frame time) t = .next u →
    u.events = s.events ++ [.data (content ++ zeros (16 * ((content.length + 19) / 16) - 4 - content.length))] ∧
    u.rxState = .awaitTag
end

