-- ==== Sys2Proof/Laws/Bytes.lean ====
section
/-! SUPPORT. Laws of byte strings and blocks: a block is its 16 bytes, XOR cancels, and the 16-byte pieces of a string. -/

namespace Sys2Proof.Machine

theorem byteAt_blockOf (f : Nat → Byte) {i : Nat} (h : i < 16) : byteAt (blockOf f) i = f i := by
  simp [byteAt, blockOf, h]

theorem block_ext {a b : Block} (h : ∀ i < 16, byteAt a i = byteAt b i) : a = b := by
  refine Vector.ext fun i hi => ?_
  simpa [byteAt, hi] using h i hi

theorem byteAt_blockXor (a b : Block) {i : Nat} (h : i < 16) :
    byteAt (blockXor a b) i = byteAt a i ^^^ byteAt b i := byteAt_blockOf _ h

theorem blockXor_cancel_right (a b : Block) : blockXor (blockXor a b) b = a :=
  block_ext fun i h => by
    rw [byteAt_blockXor _ _ h, byteAt_blockXor _ _ h, BitVec.xor_assoc, BitVec.xor_self, BitVec.xor_zero]

theorem blockXor_inj_right {a b c : Block} (h : blockXor a c = blockXor b c) : a = b := by
  rw [← blockXor_cancel_right a c, h, blockXor_cancel_right]

theorem blockXor_comm (a b : Block) : blockXor a b = blockXor b a :=
  block_ext fun i h => by rw [byteAt_blockXor _ _ h, byteAt_blockXor _ _ h, BitVec.xor_comm]

@[simp] theorem blockBytes_length (b : Block) : (blockBytes b).length = 16 := by simp [blockBytes]

theorem blockOfBytes_blockBytes (b : Block) : blockOfBytes (blockBytes b) = b :=
  block_ext fun i h => by rw [blockOfBytes, byteAt_blockOf _ h]; rfl

theorem blockBytes_blockOfBytes {s : Bytes} (h : s.length = 16) : blockBytes (blockOfBytes s) = s := by
  refine List.ext_getElem (by simp [h]) fun i h1 h2 => ?_
  have hi : i < 16 := by simpa using h1
  simp [blockBytes, blockOfBytes, blockOf, h2]

theorem block16_eq_some {s : Bytes} (h : s.length = 16) : block16 s = some (blockOfBytes s) := if_pos h

theorem block16_eq_none {s : Bytes} (h : s.length ≠ 16) : block16 s = none := if_neg h

@[simp] theorem zeros_length (n : Nat) : (zeros n).length = n := by simp [zeros]

@[simp] theorem be32_length (v : Word) : (be32 v).length = 4 := rfl

theorem pieces_length (n : Nat) (s : Bytes) : (pieces n s).length = n := by
  induction n generalizing s with
  | zero => rfl
  | succ n ih => simp [pieces, ih]

theorem pieces_append (n m : Nat) (a b : Bytes) (h : a.length = 16 * n) :
    pieces (n + m) (a ++ b) = pieces n a ++ pieces m b := by
  induction n generalizing a with
  | zero => simp [pieces, List.eq_nil_of_length_eq_zero (by omega : a.length = 0)]
  | succ n ih =>
    have h16 : 16 ≤ a.length := by omega
    rw [show n + 1 + m = n + m + 1 by omega, pieces, pieces, List.take_append_of_le_length h16,
      List.drop_append_of_le_length h16, ih _ (by simp; omega), List.cons_append]

theorem pieces_eq_map (n : Nat) (s : Bytes) : pieces n s = (List.range n).map fun k => (s.drop (16 * k)).take 16 := by
  induction n generalizing s with
  | zero => rfl
  | succ n ih =>
    rw [pieces, ih, List.range_succ_eq_map, List.map_cons, List.map_map]
    refine congrArg₂ List.cons (by simp) (List.map_congr_left fun k _ => ?_)
    simp only [Function.comp, List.drop_drop]
    congr 2
    omega

theorem pieces_flatten (n : Nat) (s : Bytes) (h : s.length = 16 * n) : (pieces n s).flatten = s := by
  induction n generalizing s with
  | zero => simp [pieces, List.eq_nil_of_length_eq_zero (by omega : s.length = 0)]
  | succ n ih => rw [pieces, List.flatten_cons, ih _ (by simp; omega), List.take_append_drop]

/-- A 16-byte piece of a string of whole pieces has 16 bytes. -/
theorem mem_pieces_length (n : Nat) (s : Bytes) (h : s.length = 16 * n) : ∀ p ∈ pieces n s, p.length = 16 := by
  induction n generalizing s with
  | zero => simp [pieces]
  | succ n ih =>
    intro p hp
    rcases List.mem_cons.mp hp with rfl | hp
    · simp; omega
    · exact ih _ (by simp; omega) p hp

theorem chunks16_append (a b : Bytes) (h : a.length % 16 = 0) : chunks16 (a ++ b) = chunks16 a ++ chunks16 b := by
  rw [chunks16, List.length_append, show (a.length + b.length) / 16 = a.length / 16 + b.length / 16 by omega]
  exact pieces_append _ _ _ _ (by omega)

theorem blocksOf_append (a b : Bytes) (h : a.length % 16 = 0) : blocksOf (a ++ b) = blocksOf a ++ blocksOf b := by
  rw [blocksOf, chunks16_append a b h, List.map_append]; rfl

theorem blocksOf_length (s : Bytes) : (blocksOf s).length = s.length / 16 := by
  simp [blocksOf, chunks16, pieces_length]

theorem bytesOf_length (bs : List Block) : (bytesOf bs).length = 16 * bs.length := by
  induction bs with
  | nil => rfl
  | cons b bs ih => rw [bytesOf, List.flatMap_cons, List.length_append]; simp only [bytesOf] at ih; simp [ih]; omega

theorem blocksOf_blockBytes (b : Block) : blocksOf (blockBytes b) = [b] := by
  have h : (blockBytes b).length = 16 := blockBytes_length b
  simp [blocksOf, chunks16, h, pieces, List.take_of_length_le, blockOfBytes_blockBytes]

theorem blocksOf_bytesOf (bs : List Block) : blocksOf (bytesOf bs) = bs := by
  induction bs with
  | nil => rfl
  | cons b bs ih =>
    rw [bytesOf, List.flatMap_cons, blocksOf_append _ _ (by simp), blocksOf_blockBytes]
    exact congrArg (b :: ·) ih

theorem bytesOf_blocksOf (s : Bytes) (h : s.length % 16 = 0) : bytesOf (blocksOf s) = s := by
  have key : ∀ ps : List Bytes, (∀ p ∈ ps, p.length = 16) → (ps.map blockOfBytes).flatMap blockBytes = ps.flatten := by
    intro ps hps
    induction ps with
    | nil => rfl
    | cons p ps ih =>
      rw [List.map_cons, List.flatMap_cons, List.flatten_cons, blockBytes_blockOfBytes (hps p (by simp)),
        ih fun q hq => hps q (by simp [hq])]
  rw [bytesOf, blocksOf, chunks16, key _ (mem_pieces_length _ s (by omega)), pieces_flatten _ s (by omega)]

theorem cbcEncrypt_length (k c : Block) (ps : List Block) : (cbcEncrypt k c ps).length = ps.length := by
  induction ps generalizing c with
  | nil => rfl
  | cons p ps ih => simp [cbcEncrypt, ih]

theorem cbcDecrypt_length (k c : Block) (xs : List Block) : (cbcDecrypt k c xs).length = xs.length := by
  induction xs generalizing c with
  | nil => rfl
  | cons x xs ih => simp [cbcDecrypt, ih]

end Sys2Proof.Machine
end

