-- ==== Sys2Proof/Laws/State.lean ====
section
/-! SUPPORT. One lemma per field per update of State, each true by unfolding, so that no later proof unfolds a record
update. -/

namespace Sys2Proof.Machine

variable (s : State)

@[simp] theorem State.ok_eq_give (v : Value) : s.ok v = s.give (.ok v) := rfl
@[simp] theorem State.done_eq_give : s.done = s.give (.ok (.bytes [])) := rfl

/-! `give` writes the result port alone. -/

@[simp] theorem State.give_config (r : Result) : (s.give r).config = s.config := rfl
@[simp] theorem State.give_key (r : Result) : (s.give r).key = s.key := rfl
@[simp] theorem State.give_ready (r : Result) : (s.give r).ready = s.ready := rfl
@[simp] theorem State.give_encChain (r : Result) : (s.give r).encChain = s.encChain := rfl
@[simp] theorem State.give_decChain (r : Result) : (s.give r).decChain = s.decChain := rfl
@[simp] theorem State.give_iv (r : Result) : (s.give r).iv = s.iv := rfl
@[simp] theorem State.give_cmp (r : Result) : (s.give r).cmp = s.cmp := rfl
@[simp] theorem State.give_cmpValid (r : Result) : (s.give r).cmpValid = s.cmpValid := rfl
@[simp] theorem State.give_encOut (r : Result) : (s.give r).encOut = s.encOut := rfl
@[simp] theorem State.give_authOk (r : Result) : (s.give r).authOk = s.authOk := rfl
@[simp] theorem State.give_rxState (r : Result) : (s.give r).rxState = s.rxState := rfl
@[simp] theorem State.give_rxPos (r : Result) : (s.give r).rxPos = s.rxPos := rfl
@[simp] theorem State.give_rxTarget (r : Result) : (s.give r).rxTarget = s.rxTarget := rfl
@[simp] theorem State.give_rxBuf (r : Result) : (s.give r).rxBuf = s.rxBuf := rfl
@[simp] theorem State.give_lastByteTime (r : Result) : (s.give r).lastByteTime = s.lastByteTime := rfl
@[simp] theorem State.give_wdCount (r : Result) : (s.give r).wdCount = s.wdCount := rfl
@[simp] theorem State.give_hdrBuf (r : Result) : (s.give r).hdrBuf = s.hdrBuf := rfl
@[simp] theorem State.give_txQueue (r : Result) : (s.give r).txQueue = s.txQueue := rfl
@[simp] theorem State.give_inFlight (r : Result) : (s.give r).inFlight = s.inFlight := rfl
@[simp] theorem State.give_fault (r : Result) : (s.give r).fault = s.fault := rfl
@[simp] theorem State.give_pending (r : Result) : (s.give r).pending = s.pending := rfl
@[simp] theorem State.give_entropy (r : Result) : (s.give r).entropy = s.entropy := rfl
@[simp] theorem State.give_drawCount (r : Result) : (s.give r).drawCount = s.drawCount := rfl
@[simp] theorem State.give_result (r : Result) : (s.give r).result = some r := rfl
@[simp] theorem State.give_events (r : Result) : (s.give r).events = s.events := rfl

/-! `emit` appends to the events alone. -/

@[simp] theorem State.emit_config (e : Event) : (s.emit e).config = s.config := rfl
@[simp] theorem State.emit_key (e : Event) : (s.emit e).key = s.key := rfl
@[simp] theorem State.emit_ready (e : Event) : (s.emit e).ready = s.ready := rfl
@[simp] theorem State.emit_encChain (e : Event) : (s.emit e).encChain = s.encChain := rfl
@[simp] theorem State.emit_decChain (e : Event) : (s.emit e).decChain = s.decChain := rfl
@[simp] theorem State.emit_iv (e : Event) : (s.emit e).iv = s.iv := rfl
@[simp] theorem State.emit_cmp (e : Event) : (s.emit e).cmp = s.cmp := rfl
@[simp] theorem State.emit_cmpValid (e : Event) : (s.emit e).cmpValid = s.cmpValid := rfl
@[simp] theorem State.emit_encOut (e : Event) : (s.emit e).encOut = s.encOut := rfl
@[simp] theorem State.emit_authOk (e : Event) : (s.emit e).authOk = s.authOk := rfl
@[simp] theorem State.emit_rxState (e : Event) : (s.emit e).rxState = s.rxState := rfl
@[simp] theorem State.emit_rxPos (e : Event) : (s.emit e).rxPos = s.rxPos := rfl
@[simp] theorem State.emit_rxTarget (e : Event) : (s.emit e).rxTarget = s.rxTarget := rfl
@[simp] theorem State.emit_rxBuf (e : Event) : (s.emit e).rxBuf = s.rxBuf := rfl
@[simp] theorem State.emit_lastByteTime (e : Event) : (s.emit e).lastByteTime = s.lastByteTime := rfl
@[simp] theorem State.emit_wdCount (e : Event) : (s.emit e).wdCount = s.wdCount := rfl
@[simp] theorem State.emit_hdrBuf (e : Event) : (s.emit e).hdrBuf = s.hdrBuf := rfl
@[simp] theorem State.emit_txQueue (e : Event) : (s.emit e).txQueue = s.txQueue := rfl
@[simp] theorem State.emit_inFlight (e : Event) : (s.emit e).inFlight = s.inFlight := rfl
@[simp] theorem State.emit_fault (e : Event) : (s.emit e).fault = s.fault := rfl
@[simp] theorem State.emit_pending (e : Event) : (s.emit e).pending = s.pending := rfl
@[simp] theorem State.emit_entropy (e : Event) : (s.emit e).entropy = s.entropy := rfl
@[simp] theorem State.emit_drawCount (e : Event) : (s.emit e).drawCount = s.drawCount := rfl
@[simp] theorem State.emit_result (e : Event) : (s.emit e).result = s.result := rfl
@[simp] theorem State.emit_events (e : Event) : (s.emit e).events = s.events ++ [e] := rfl

/-! `raise` writes the sticky flag and the result port alone (60_exceptions.md R322). -/

@[simp] theorem State.raise_config (k : FaultKind) : (s.raise k).config = s.config := rfl
@[simp] theorem State.raise_key (k : FaultKind) : (s.raise k).key = s.key := rfl
@[simp] theorem State.raise_ready (k : FaultKind) : (s.raise k).ready = s.ready := rfl
@[simp] theorem State.raise_encChain (k : FaultKind) : (s.raise k).encChain = s.encChain := rfl
@[simp] theorem State.raise_decChain (k : FaultKind) : (s.raise k).decChain = s.decChain := rfl
@[simp] theorem State.raise_iv (k : FaultKind) : (s.raise k).iv = s.iv := rfl
@[simp] theorem State.raise_cmp (k : FaultKind) : (s.raise k).cmp = s.cmp := rfl
@[simp] theorem State.raise_cmpValid (k : FaultKind) : (s.raise k).cmpValid = s.cmpValid := rfl
@[simp] theorem State.raise_encOut (k : FaultKind) : (s.raise k).encOut = s.encOut := rfl
@[simp] theorem State.raise_authOk (k : FaultKind) : (s.raise k).authOk = s.authOk := rfl
@[simp] theorem State.raise_rxState (k : FaultKind) : (s.raise k).rxState = s.rxState := rfl
@[simp] theorem State.raise_rxPos (k : FaultKind) : (s.raise k).rxPos = s.rxPos := rfl
@[simp] theorem State.raise_rxTarget (k : FaultKind) : (s.raise k).rxTarget = s.rxTarget := rfl
@[simp] theorem State.raise_rxBuf (k : FaultKind) : (s.raise k).rxBuf = s.rxBuf := rfl
@[simp] theorem State.raise_lastByteTime (k : FaultKind) : (s.raise k).lastByteTime = s.lastByteTime := rfl
@[simp] theorem State.raise_wdCount (k : FaultKind) : (s.raise k).wdCount = s.wdCount := rfl
@[simp] theorem State.raise_hdrBuf (k : FaultKind) : (s.raise k).hdrBuf = s.hdrBuf := rfl
@[simp] theorem State.raise_txQueue (k : FaultKind) : (s.raise k).txQueue = s.txQueue := rfl
@[simp] theorem State.raise_inFlight (k : FaultKind) : (s.raise k).inFlight = s.inFlight := rfl
@[simp] theorem State.raise_fault (k : FaultKind) : (s.raise k).fault = stickyFault s.fault k := rfl
@[simp] theorem State.raise_pending (k : FaultKind) : (s.raise k).pending = s.pending := rfl
@[simp] theorem State.raise_entropy (k : FaultKind) : (s.raise k).entropy = s.entropy := rfl
@[simp] theorem State.raise_drawCount (k : FaultKind) : (s.raise k).drawCount = s.drawCount := rfl
@[simp] theorem State.raise_result (k : FaultKind) : (s.raise k).result = some (.fault k) := rfl
@[simp] theorem State.raise_events (k : FaultKind) : (s.raise k).events = s.events := rfl

/-! `seed` writes the cipher's registers alone (41_cipher.md R142). -/

@[simp] theorem State.seed_config (k v : Block) : (s.seed k v).config = s.config := rfl
@[simp] theorem State.seed_key (k v : Block) : (s.seed k v).key = k := rfl
@[simp] theorem State.seed_ready (k v : Block) : (s.seed k v).ready = true := rfl
@[simp] theorem State.seed_encChain (k v : Block) : (s.seed k v).encChain = v := rfl
@[simp] theorem State.seed_decChain (k v : Block) : (s.seed k v).decChain = v := rfl
@[simp] theorem State.seed_iv (k v : Block) : (s.seed k v).iv = v := rfl
@[simp] theorem State.seed_cmp (k v : Block) : (s.seed k v).cmp = s.cmp := rfl
@[simp] theorem State.seed_cmpValid (k v : Block) : (s.seed k v).cmpValid = s.cmpValid := rfl
@[simp] theorem State.seed_encOut (k v : Block) : (s.seed k v).encOut = s.encOut := rfl
@[simp] theorem State.seed_authOk (k v : Block) : (s.seed k v).authOk = s.authOk := rfl
@[simp] theorem State.seed_rxState (k v : Block) : (s.seed k v).rxState = s.rxState := rfl
@[simp] theorem State.seed_rxPos (k v : Block) : (s.seed k v).rxPos = s.rxPos := rfl
@[simp] theorem State.seed_rxTarget (k v : Block) : (s.seed k v).rxTarget = s.rxTarget := rfl
@[simp] theorem State.seed_rxBuf (k v : Block) : (s.seed k v).rxBuf = s.rxBuf := rfl
@[simp] theorem State.seed_lastByteTime (k v : Block) : (s.seed k v).lastByteTime = s.lastByteTime := rfl
@[simp] theorem State.seed_wdCount (k v : Block) : (s.seed k v).wdCount = s.wdCount := rfl
@[simp] theorem State.seed_hdrBuf (k v : Block) : (s.seed k v).hdrBuf = s.hdrBuf := rfl
@[simp] theorem State.seed_txQueue (k v : Block) : (s.seed k v).txQueue = s.txQueue := rfl
@[simp] theorem State.seed_inFlight (k v : Block) : (s.seed k v).inFlight = s.inFlight := rfl
@[simp] theorem State.seed_fault (k v : Block) : (s.seed k v).fault = s.fault := rfl
@[simp] theorem State.seed_pending (k v : Block) : (s.seed k v).pending = s.pending := rfl
@[simp] theorem State.seed_entropy (k v : Block) : (s.seed k v).entropy = s.entropy := rfl
@[simp] theorem State.seed_drawCount (k v : Block) : (s.seed k v).drawCount = s.drawCount := rfl
@[simp] theorem State.seed_result (k v : Block) : (s.seed k v).result = s.result := rfl
@[simp] theorem State.seed_events (k v : Block) : (s.seed k v).events = s.events := rfl

/-! `badKey` writes `ready` and the result port alone (41_cipher.md R143). -/

@[simp] theorem State.badKey_config : (s.badKey).config = s.config := rfl
@[simp] theorem State.badKey_key : (s.badKey).key = s.key := rfl
@[simp] theorem State.badKey_ready : (s.badKey).ready = false := rfl
@[simp] theorem State.badKey_encChain : (s.badKey).encChain = s.encChain := rfl
@[simp] theorem State.badKey_decChain : (s.badKey).decChain = s.decChain := rfl
@[simp] theorem State.badKey_iv : (s.badKey).iv = s.iv := rfl
@[simp] theorem State.badKey_cmp : (s.badKey).cmp = s.cmp := rfl
@[simp] theorem State.badKey_cmpValid : (s.badKey).cmpValid = s.cmpValid := rfl
@[simp] theorem State.badKey_encOut : (s.badKey).encOut = s.encOut := rfl
@[simp] theorem State.badKey_authOk : (s.badKey).authOk = s.authOk := rfl
@[simp] theorem State.badKey_rxState : (s.badKey).rxState = s.rxState := rfl
@[simp] theorem State.badKey_rxPos : (s.badKey).rxPos = s.rxPos := rfl
@[simp] theorem State.badKey_rxTarget : (s.badKey).rxTarget = s.rxTarget := rfl
@[simp] theorem State.badKey_rxBuf : (s.badKey).rxBuf = s.rxBuf := rfl
@[simp] theorem State.badKey_lastByteTime : (s.badKey).lastByteTime = s.lastByteTime := rfl
@[simp] theorem State.badKey_wdCount : (s.badKey).wdCount = s.wdCount := rfl
@[simp] theorem State.badKey_hdrBuf : (s.badKey).hdrBuf = s.hdrBuf := rfl
@[simp] theorem State.badKey_txQueue : (s.badKey).txQueue = s.txQueue := rfl
@[simp] theorem State.badKey_inFlight : (s.badKey).inFlight = s.inFlight := rfl
@[simp] theorem State.badKey_fault : (s.badKey).fault = s.fault := rfl
@[simp] theorem State.badKey_pending : (s.badKey).pending = s.pending := rfl
@[simp] theorem State.badKey_entropy : (s.badKey).entropy = s.entropy := rfl
@[simp] theorem State.badKey_drawCount : (s.badKey).drawCount = s.drawCount := rfl
@[simp] theorem State.badKey_result : (s.badKey).result = some (.error invalidKeyCode) := rfl
@[simp] theorem State.badKey_events : (s.badKey).events = s.events := rfl

/-! `encAdvance` writes the encrypt chain alone (41_cipher.md R144). -/

@[simp] theorem State.encAdvance_config (d : Bytes) : (s.encAdvance d).config = s.config := rfl
@[simp] theorem State.encAdvance_key (d : Bytes) : (s.encAdvance d).key = s.key := rfl
@[simp] theorem State.encAdvance_ready (d : Bytes) : (s.encAdvance d).ready = s.ready := rfl
@[simp] theorem State.encAdvance_encChain (d : Bytes) : (s.encAdvance d).encChain = lastBlock s.encChain (s.encBlocks d) := rfl
@[simp] theorem State.encAdvance_decChain (d : Bytes) : (s.encAdvance d).decChain = s.decChain := rfl
@[simp] theorem State.encAdvance_iv (d : Bytes) : (s.encAdvance d).iv = s.iv := rfl
@[simp] theorem State.encAdvance_cmp (d : Bytes) : (s.encAdvance d).cmp = s.cmp := rfl
@[simp] theorem State.encAdvance_cmpValid (d : Bytes) : (s.encAdvance d).cmpValid = s.cmpValid := rfl
@[simp] theorem State.encAdvance_encOut (d : Bytes) : (s.encAdvance d).encOut = s.encOut := rfl
@[simp] theorem State.encAdvance_authOk (d : Bytes) : (s.encAdvance d).authOk = s.authOk := rfl
@[simp] theorem State.encAdvance_rxState (d : Bytes) : (s.encAdvance d).rxState = s.rxState := rfl
@[simp] theorem State.encAdvance_rxPos (d : Bytes) : (s.encAdvance d).rxPos = s.rxPos := rfl
@[simp] theorem State.encAdvance_rxTarget (d : Bytes) : (s.encAdvance d).rxTarget = s.rxTarget := rfl
@[simp] theorem State.encAdvance_rxBuf (d : Bytes) : (s.encAdvance d).rxBuf = s.rxBuf := rfl
@[simp] theorem State.encAdvance_lastByteTime (d : Bytes) : (s.encAdvance d).lastByteTime = s.lastByteTime := rfl
@[simp] theorem State.encAdvance_wdCount (d : Bytes) : (s.encAdvance d).wdCount = s.wdCount := rfl
@[simp] theorem State.encAdvance_hdrBuf (d : Bytes) : (s.encAdvance d).hdrBuf = s.hdrBuf := rfl
@[simp] theorem State.encAdvance_txQueue (d : Bytes) : (s.encAdvance d).txQueue = s.txQueue := rfl
@[simp] theorem State.encAdvance_inFlight (d : Bytes) : (s.encAdvance d).inFlight = s.inFlight := rfl
@[simp] theorem State.encAdvance_fault (d : Bytes) : (s.encAdvance d).fault = s.fault := rfl
@[simp] theorem State.encAdvance_pending (d : Bytes) : (s.encAdvance d).pending = s.pending := rfl
@[simp] theorem State.encAdvance_entropy (d : Bytes) : (s.encAdvance d).entropy = s.entropy := rfl
@[simp] theorem State.encAdvance_drawCount (d : Bytes) : (s.encAdvance d).drawCount = s.drawCount := rfl
@[simp] theorem State.encAdvance_result (d : Bytes) : (s.encAdvance d).result = s.result := rfl
@[simp] theorem State.encAdvance_events (d : Bytes) : (s.encAdvance d).events = s.events := rfl

/-! `decAdvance` writes the decrypt chain alone (41_cipher.md R145). -/

@[simp] theorem State.decAdvance_config (d : Bytes) : (s.decAdvance d).config = s.config := rfl
@[simp] theorem State.decAdvance_key (d : Bytes) : (s.decAdvance d).key = s.key := rfl
@[simp] theorem State.decAdvance_ready (d : Bytes) : (s.decAdvance d).ready = s.ready := rfl
@[simp] theorem State.decAdvance_encChain (d : Bytes) : (s.decAdvance d).encChain = s.encChain := rfl
@[simp] theorem State.decAdvance_decChain (d : Bytes) : (s.decAdvance d).decChain = lastBlock s.decChain (blocksOf d) := rfl
@[simp] theorem State.decAdvance_iv (d : Bytes) : (s.decAdvance d).iv = s.iv := rfl
@[simp] theorem State.decAdvance_cmp (d : Bytes) : (s.decAdvance d).cmp = s.cmp := rfl
@[simp] theorem State.decAdvance_cmpValid (d : Bytes) : (s.decAdvance d).cmpValid = s.cmpValid := rfl
@[simp] theorem State.decAdvance_encOut (d : Bytes) : (s.decAdvance d).encOut = s.encOut := rfl
@[simp] theorem State.decAdvance_authOk (d : Bytes) : (s.decAdvance d).authOk = s.authOk := rfl
@[simp] theorem State.decAdvance_rxState (d : Bytes) : (s.decAdvance d).rxState = s.rxState := rfl
@[simp] theorem State.decAdvance_rxPos (d : Bytes) : (s.decAdvance d).rxPos = s.rxPos := rfl
@[simp] theorem State.decAdvance_rxTarget (d : Bytes) : (s.decAdvance d).rxTarget = s.rxTarget := rfl
@[simp] theorem State.decAdvance_rxBuf (d : Bytes) : (s.decAdvance d).rxBuf = s.rxBuf := rfl
@[simp] theorem State.decAdvance_lastByteTime (d : Bytes) : (s.decAdvance d).lastByteTime = s.lastByteTime := rfl
@[simp] theorem State.decAdvance_wdCount (d : Bytes) : (s.decAdvance d).wdCount = s.wdCount := rfl
@[simp] theorem State.decAdvance_hdrBuf (d : Bytes) : (s.decAdvance d).hdrBuf = s.hdrBuf := rfl
@[simp] theorem State.decAdvance_txQueue (d : Bytes) : (s.decAdvance d).txQueue = s.txQueue := rfl
@[simp] theorem State.decAdvance_inFlight (d : Bytes) : (s.decAdvance d).inFlight = s.inFlight := rfl
@[simp] theorem State.decAdvance_fault (d : Bytes) : (s.decAdvance d).fault = s.fault := rfl
@[simp] theorem State.decAdvance_pending (d : Bytes) : (s.decAdvance d).pending = s.pending := rfl
@[simp] theorem State.decAdvance_entropy (d : Bytes) : (s.decAdvance d).entropy = s.entropy := rfl
@[simp] theorem State.decAdvance_drawCount (d : Bytes) : (s.decAdvance d).drawCount = s.drawCount := rfl
@[simp] theorem State.decAdvance_result (d : Bytes) : (s.decAdvance d).result = s.result := rfl
@[simp] theorem State.decAdvance_events (d : Bytes) : (s.decAdvance d).events = s.events := rfl

/-! `enqueue` appends to the queue alone. -/

@[simp] theorem State.enqueue_config (us : List Bytes) : (s.enqueue us).config = s.config := rfl
@[simp] theorem State.enqueue_key (us : List Bytes) : (s.enqueue us).key = s.key := rfl
@[simp] theorem State.enqueue_ready (us : List Bytes) : (s.enqueue us).ready = s.ready := rfl
@[simp] theorem State.enqueue_encChain (us : List Bytes) : (s.enqueue us).encChain = s.encChain := rfl
@[simp] theorem State.enqueue_decChain (us : List Bytes) : (s.enqueue us).decChain = s.decChain := rfl
@[simp] theorem State.enqueue_iv (us : List Bytes) : (s.enqueue us).iv = s.iv := rfl
@[simp] theorem State.enqueue_cmp (us : List Bytes) : (s.enqueue us).cmp = s.cmp := rfl
@[simp] theorem State.enqueue_cmpValid (us : List Bytes) : (s.enqueue us).cmpValid = s.cmpValid := rfl
@[simp] theorem State.enqueue_encOut (us : List Bytes) : (s.enqueue us).encOut = s.encOut := rfl
@[simp] theorem State.enqueue_authOk (us : List Bytes) : (s.enqueue us).authOk = s.authOk := rfl
@[simp] theorem State.enqueue_rxState (us : List Bytes) : (s.enqueue us).rxState = s.rxState := rfl
@[simp] theorem State.enqueue_rxPos (us : List Bytes) : (s.enqueue us).rxPos = s.rxPos := rfl
@[simp] theorem State.enqueue_rxTarget (us : List Bytes) : (s.enqueue us).rxTarget = s.rxTarget := rfl
@[simp] theorem State.enqueue_rxBuf (us : List Bytes) : (s.enqueue us).rxBuf = s.rxBuf := rfl
@[simp] theorem State.enqueue_lastByteTime (us : List Bytes) : (s.enqueue us).lastByteTime = s.lastByteTime := rfl
@[simp] theorem State.enqueue_wdCount (us : List Bytes) : (s.enqueue us).wdCount = s.wdCount := rfl
@[simp] theorem State.enqueue_hdrBuf (us : List Bytes) : (s.enqueue us).hdrBuf = s.hdrBuf := rfl
@[simp] theorem State.enqueue_txQueue (us : List Bytes) : (s.enqueue us).txQueue = s.txQueue ++ us := rfl
@[simp] theorem State.enqueue_inFlight (us : List Bytes) : (s.enqueue us).inFlight = s.inFlight := rfl
@[simp] theorem State.enqueue_fault (us : List Bytes) : (s.enqueue us).fault = s.fault := rfl
@[simp] theorem State.enqueue_pending (us : List Bytes) : (s.enqueue us).pending = s.pending := rfl
@[simp] theorem State.enqueue_entropy (us : List Bytes) : (s.enqueue us).entropy = s.entropy := rfl
@[simp] theorem State.enqueue_drawCount (us : List Bytes) : (s.enqueue us).drawCount = s.drawCount := rfl
@[simp] theorem State.enqueue_result (us : List Bytes) : (s.enqueue us).result = s.result := rfl
@[simp] theorem State.enqueue_events (us : List Bytes) : (s.enqueue us).events = s.events := rfl

/-! `sessionCleared` clears the session, the reassembler and the chunker (46_session.md R312). -/

@[simp] theorem State.sessionCleared_config : (s.sessionCleared).config = s.config := rfl
@[simp] theorem State.sessionCleared_key : (s.sessionCleared).key = s.key := rfl
@[simp] theorem State.sessionCleared_ready : (s.sessionCleared).ready = false := rfl
@[simp] theorem State.sessionCleared_encChain : (s.sessionCleared).encChain = s.encChain := rfl
@[simp] theorem State.sessionCleared_decChain : (s.sessionCleared).decChain = s.decChain := rfl
@[simp] theorem State.sessionCleared_iv : (s.sessionCleared).iv = s.iv := rfl
@[simp] theorem State.sessionCleared_cmp : (s.sessionCleared).cmp = s.cmp := rfl
@[simp] theorem State.sessionCleared_cmpValid : (s.sessionCleared).cmpValid = false := rfl
@[simp] theorem State.sessionCleared_encOut : (s.sessionCleared).encOut = false := rfl
@[simp] theorem State.sessionCleared_authOk : (s.sessionCleared).authOk = false := rfl
@[simp] theorem State.sessionCleared_rxState : (s.sessionCleared).rxState = .awaitTag := rfl
@[simp] theorem State.sessionCleared_rxPos : (s.sessionCleared).rxPos = 0 := rfl
@[simp] theorem State.sessionCleared_rxTarget : (s.sessionCleared).rxTarget = 0 := rfl
@[simp] theorem State.sessionCleared_rxBuf : (s.sessionCleared).rxBuf = [] := rfl
@[simp] theorem State.sessionCleared_lastByteTime : (s.sessionCleared).lastByteTime = none := rfl
@[simp] theorem State.sessionCleared_wdCount : (s.sessionCleared).wdCount = 0 := rfl
@[simp] theorem State.sessionCleared_hdrBuf : (s.sessionCleared).hdrBuf = none := rfl
@[simp] theorem State.sessionCleared_txQueue : (s.sessionCleared).txQueue = [] := rfl
@[simp] theorem State.sessionCleared_inFlight : (s.sessionCleared).inFlight = false := rfl
@[simp] theorem State.sessionCleared_fault : (s.sessionCleared).fault = s.fault := rfl
@[simp] theorem State.sessionCleared_pending : (s.sessionCleared).pending = s.pending := rfl
@[simp] theorem State.sessionCleared_entropy : (s.sessionCleared).entropy = s.entropy := rfl
@[simp] theorem State.sessionCleared_drawCount : (s.sessionCleared).drawCount = s.drawCount := rfl
@[simp] theorem State.sessionCleared_result : (s.sessionCleared).result = s.result := rfl
@[simp] theorem State.sessionCleared_events : (s.sessionCleared).events = s.events := rfl

/-! A draw writes the entropy port and the draw counter alone (41_cipher.md R140). -/

@[simp] theorem State.afterDraw_config : s.afterDraw.config = s.config := by unfold State.afterDraw; split <;> rfl
@[simp] theorem State.afterDraw_key : s.afterDraw.key = s.key := by unfold State.afterDraw; split <;> rfl
@[simp] theorem State.afterDraw_ready : s.afterDraw.ready = s.ready := by unfold State.afterDraw; split <;> rfl
@[simp] theorem State.afterDraw_encChain : s.afterDraw.encChain = s.encChain := by unfold State.afterDraw; split <;> rfl
@[simp] theorem State.afterDraw_decChain : s.afterDraw.decChain = s.decChain := by unfold State.afterDraw; split <;> rfl
@[simp] theorem State.afterDraw_iv : s.afterDraw.iv = s.iv := by unfold State.afterDraw; split <;> rfl
@[simp] theorem State.afterDraw_cmp : s.afterDraw.cmp = s.cmp := by unfold State.afterDraw; split <;> rfl
@[simp] theorem State.afterDraw_cmpValid : s.afterDraw.cmpValid = s.cmpValid := by unfold State.afterDraw; split <;> rfl
@[simp] theorem State.afterDraw_encOut : s.afterDraw.encOut = s.encOut := by unfold State.afterDraw; split <;> rfl
@[simp] theorem State.afterDraw_authOk : s.afterDraw.authOk = s.authOk := by unfold State.afterDraw; split <;> rfl
@[simp] theorem State.afterDraw_rxState : s.afterDraw.rxState = s.rxState := by unfold State.afterDraw; split <;> rfl
@[simp] theorem State.afterDraw_rxPos : s.afterDraw.rxPos = s.rxPos := by unfold State.afterDraw; split <;> rfl
@[simp] theorem State.afterDraw_rxTarget : s.afterDraw.rxTarget = s.rxTarget := by unfold State.afterDraw; split <;> rfl
@[simp] theorem State.afterDraw_rxBuf : s.afterDraw.rxBuf = s.rxBuf := by unfold State.afterDraw; split <;> rfl
@[simp] theorem State.afterDraw_lastByteTime : s.afterDraw.lastByteTime = s.lastByteTime := by unfold State.afterDraw; split <;> rfl
@[simp] theorem State.afterDraw_wdCount : s.afterDraw.wdCount = s.wdCount := by unfold State.afterDraw; split <;> rfl
@[simp] theorem State.afterDraw_hdrBuf : s.afterDraw.hdrBuf = s.hdrBuf := by unfold State.afterDraw; split <;> rfl
@[simp] theorem State.afterDraw_txQueue : s.afterDraw.txQueue = s.txQueue := by unfold State.afterDraw; split <;> rfl
@[simp] theorem State.afterDraw_inFlight : s.afterDraw.inFlight = s.inFlight := by unfold State.afterDraw; split <;> rfl
@[simp] theorem State.afterDraw_fault : s.afterDraw.fault = s.fault := by unfold State.afterDraw; split <;> rfl
@[simp] theorem State.afterDraw_pending : s.afterDraw.pending = s.pending := by unfold State.afterDraw; split <;> rfl
@[simp] theorem State.afterDraw_result : s.afterDraw.result = s.result := by unfold State.afterDraw; split <;> rfl
@[simp] theorem State.afterDraw_events : s.afterDraw.events = s.events := by unfold State.afterDraw; split <;> rfl

end Sys2Proof.Machine
end

