-- ==== Sys2Proof/Laws/Ops.lean ====
section
/-! SUPPORT. For each shared operation that branches, one lemma that says everything it can do. -/

namespace Sys2Proof.Machine

/-- A draw takes the oldest supplied value, or the next free one. -/
theorem draw_cases (s : State) :
    (∃ d rest, s.entropy = d :: rest ∧ s.drawn = d ∧ s.afterDraw = { s with entropy := rest }) ∨
    (s.entropy = [] ∧ s.drawn = Config.freeDraw s.drawCount ∧
      s.afterDraw = { s with drawCount := s.drawCount + 1 }) := by
  cases h : s.entropy with
  | nil => exact .inr ⟨rfl, by simp [State.drawn, h], by simp [State.afterDraw, h]⟩
  | cons d rest => exact .inl ⟨d, rest, rfl, by simp [State.drawn, h], by simp [State.afterDraw, h]⟩

/-- The issue step does nothing while a write is in flight or the queue is empty, and otherwise issues the head. -/
theorem issue_cases (s : State) :
    ((s.inFlight = true ∨ s.txQueue = []) ∧ s.issue = s) ∨
    ∃ u rest, s.inFlight = false ∧ s.txQueue = u :: rest ∧
      s.issue = { s with txQueue := rest, inFlight := true, events := s.events ++ [.txUnit u] } := by
  cases hf : s.inFlight with
  | true => exact .inl ⟨.inl rfl, by simp [State.issue, hf]⟩
  | false =>
    cases hq : s.txQueue with
    | nil => exact .inl ⟨.inr rfl, by simp [State.issue, hf, hq]⟩
    | cons u rest => exact .inr ⟨u, rest, rfl, rfl, by simp [State.issue, hf, hq, State.emit]⟩

/-- Raising a fault keeps the first kind. -/
theorem stickyFault_eq (old : Option FaultKind) (k : FaultKind) :
    stickyFault old k = if old = none then some k else old := by
  cases old <;> rfl

/-- `WdOther` sets the counter to 0 under `Consecutive` and does nothing under `Cumulative`. -/
theorem wdOther_eq (s : State) :
    s.wdOther = { s with wdCount := if s.config.wdPolicy = .consecutive then 0 else s.wdCount } := by
  cases h : s.config.wdPolicy <;> simp [State.wdOther, h]

/-- `WdMarker` counts, or fires and starts again. -/
theorem wdMarker_cases (s : State) :
    (s.wdCount + 1 ≤ wdLimit ∧ s.wdMarker = { s with wdCount := s.wdCount + 1 }) ∨
    (wdLimit < s.wdCount + 1 ∧
      s.wdMarker = { s with wdCount := 0, events := s.events ++ [.error watchdogCode] }) := by
  by_cases h : s.wdCount + 1 > wdLimit
  · exact .inr ⟨h, by simp [State.wdMarker, h, State.emit]⟩
  · exact .inl ⟨by omega, by simp [State.wdMarker, h]⟩

/-- Encoding moves the encrypt chain or nothing. -/
theorem afterEncode_eq (e : Bool) (content : Bytes) (s : State) :
    s.afterEncode e content =
      { s with encChain := if e then lastBlock s.encChain (s.encBlocks (plainBody content)) else s.encChain } := by
  cases e <;> rfl

/-- Decoding moves the decrypt chain or nothing. -/
theorem afterDecode_eq (frame : Bytes) (s : State) :
    s.afterDecode frame =
      { s with decChain :=
          if (frameDefect frame).isNone && isEncrypted (frame.getD 1 0) && s.ready
          then lastBlock s.decChain (blocksOf (frame.drop hdrLen)) else s.decChain } := by
  unfold State.afterDecode
  split <;> simp_all [State.decAdvance]

/-- Receiving a frame emits its payload or nothing, and moves at most the decrypt chain. -/
theorem receiveFrame_cases (frame : Bytes) (s : State) :
    (∃ p, s.decodedFrame frame = .ok p ∧ s.receiveFrame frame = (s.afterDecode frame).emit (.data p)) ∨
    (∃ r, s.decodedFrame frame = .error r ∧ s.receiveFrame frame = s.afterDecode frame) := by
  cases h : s.decodedFrame frame with
  | ok p => exact .inl ⟨p, rfl, by simp [State.receiveFrame, h]⟩
  | error r => exact .inr ⟨r, rfl, by simp [State.receiveFrame, h]⟩

/-- The structural checks pass exactly for a frame of `2 + 16N` bytes with the tag and N in 1..17. -/
theorem frameDefect_eq_none (frame : Bytes) :
    frameDefect frame = none ↔
      frame.getD 0 0 = startTag ∧ 1 ≤ subpacketCount (frame.getD 1 0) ∧
        subpacketCount (frame.getD 1 0) ≤ maxNAccept ∧
        frame.length = hdrLen + subpacket * subpacketCount (frame.getD 1 0) := by
  simp only [frameDefect]
  by_cases h1 : frame.length < hdrLen
  · simp only [h1, if_true, reduceCtorEq, false_iff]
    intro h
    simp only [hdrLen] at h1 h
    omega
  by_cases h2 : frame.getD 0 0 = startTag
  · by_cases h3 : subpacketCount (frame.getD 1 0) = 0 ∨ subpacketCount (frame.getD 1 0) > maxNAccept
    · simp only [h1, h2, h3, if_true, if_false, ne_eq, not_true, reduceCtorEq, false_iff]
      omega
    · by_cases h4 : frame.length = hdrLen + subpacket * subpacketCount (frame.getD 1 0)
      · rw [if_neg h1, if_neg (not_not.mpr h2), if_neg h3, if_neg (not_not.mpr h4)]
        exact iff_of_true rfl ⟨h2, by omega, by omega, h4⟩
      · simp only [h1, h2, h3, h4, if_true, if_false, ne_eq, not_true, not_false_eq_true, reduceCtorEq, and_false]
  · simp only [h1, h2, if_true, if_false, ne_eq, not_false_eq_true, reduceCtorEq, false_and]

/-- `RxStep` is one of the three transitions on the arrived state. -/
theorem rxStep_cases (b : Byte) (t : Nat) (s : State) :
    ((arrive t s).rxState = .awaitTag ∧ rxStep b t s = tagStep b (arrive t s)) ∨
    ((arrive t s).rxState = .awaitLength ∧ rxStep b t s = lengthStep b (arrive t s)) ∨
    ((arrive t s).rxState = .awaitData ∧ rxStep b t s = dataStep b (arrive t s)) := by
  cases h : (arrive t s).rxState <;> simp [rxStep, h]

/-- The bytes of a notification are processed one after another. -/
theorem rxSteps_cons (b : Byte) (value : Bytes) (t : Nat) (s : State) :
    rxSteps (b :: value) t s = rxSteps value t (rxStep b t s) := rfl

end Sys2Proof.Machine
end

