-- ==== Sys2Proof/Laws/PerInstr.lean ====
section
/-! SUPPORT. The family EncodesToItsRow: for every instruction, its command word belongs to a row of the opcode map and its
operands have the types that row asks for (30_encoding.md R94, R95). One lemma per constructor. -/

namespace Sys2Proof.Laws.EncodesToItsRow

/-- The command of `i` has a row, and the operand types of that row. -/
def Statement (i : Instr) : Prop :=
  (rowOf (encode i).word).map (fun r => r.shape (encode i).word) = some ((encode i).operands.map Operand.type)

theorem cipherInit (key : Bytes) : Statement (.cipherInit key) := by
  simp [Statement, encode, encodeWord, encodeOperands, rowOf, opcodeRows, bytesRow, bareRow, Operand.type]
theorem cipherEncrypt (data : Bytes) : Statement (.cipherEncrypt data) := by
  simp [Statement, encode, encodeWord, encodeOperands, rowOf, opcodeRows, bytesRow, bareRow, Operand.type]
theorem cipherDecrypt (data : Bytes) : Statement (.cipherDecrypt data) := by
  simp [Statement, encode, encodeWord, encodeOperands, rowOf, opcodeRows, bytesRow, bareRow, Operand.type]
theorem cipherIsReady : Statement .cipherIsReady := by
  simp [Statement, encode, encodeWord, encodeOperands, rowOf, opcodeRows, bytesRow, bareRow]
theorem crc32 (data : Bytes) : Statement (.crc32 data) := by
  simp [Statement, encode, encodeWord, encodeOperands, rowOf, opcodeRows, bytesRow, bareRow, Operand.type]
theorem crcStamp (region : Bytes) : Statement (.crcStamp region) := by
  simp [Statement, encode, encodeWord, encodeOperands, rowOf, opcodeRows, bytesRow, bareRow, Operand.type]
theorem crcValidate (region : Bytes) : Statement (.crcValidate region) := by
  simp [Statement, encode, encodeWord, encodeOperands, rowOf, opcodeRows, bytesRow, bareRow, Operand.type]
theorem packetBuild (cmd : Byte) (param : Option Byte) (data : Bytes) : Statement (.packetBuild cmd param data) := by
  cases param <;>
    simp [Statement, encode, encodeWord, encodeOperands, modifier, bitX, rowOf, opcodeRows, bytesRow, bareRow, Operand.type]
theorem frameEncode (respond encrypt : Bool) (content : Bytes) : Statement (.frameEncode respond encrypt content) := by
  cases respond <;> cases encrypt <;>
    simp [Statement, encode, encodeWord, encodeOperands, modifier, bitX, rowOf, opcodeRows, bytesRow, bareRow, Operand.type]
theorem frameDecode (frame : Bytes) : Statement (.frameDecode frame) := by
  simp [Statement, encode, encodeWord, encodeOperands, rowOf, opcodeRows, bytesRow, bareRow, Operand.type]
theorem rxByte (b : Byte) (t : Nat) : Statement (.rxByte b t) := by
  simp [Statement, encode, encodeWord, encodeOperands, rowOf, opcodeRows, bytesRow, bareRow, Operand.type]
theorem txWrite (w : Bytes) : Statement (.txWrite w) := by
  simp [Statement, encode, encodeWord, encodeOperands, rowOf, opcodeRows, bytesRow, bareRow, Operand.type]
theorem txWriteDone (success : Bool) : Statement (.txWriteDone success) := by
  cases success <;>
    simp [Statement, encode, encodeWord, encodeOperands, modifier, bitX, rowOf, opcodeRows, bytesRow, bareRow]
theorem bleNotify (value : Bytes) (t : Nat) : Statement (.bleNotify value t) := by
  simp [Statement, encode, encodeWord, encodeOperands, rowOf, opcodeRows, bytesRow, bareRow, Operand.type]
theorem authBuild (key : Bytes) (enableFlag : Byte) : Statement (.authBuild key enableFlag) := by
  simp [Statement, encode, encodeWord, encodeOperands, rowOf, opcodeRows, bytesRow, bareRow, Operand.type]
theorem authCheck (enableOutbound : Bool) (echo : Bytes) : Statement (.authCheck enableOutbound echo) := by
  cases enableOutbound <;>
    simp [Statement, encode, encodeWord, encodeOperands, modifier, bitX, rowOf, opcodeRows, bytesRow, bareRow, Operand.type]
theorem send (respond : Bool) (content : Bytes) : Statement (.send respond content) := by
  cases respond <;>
    simp [Statement, encode, encodeWord, encodeOperands, modifier, bitX, rowOf, opcodeRows, bytesRow, bareRow, Operand.type]
theorem sessionReset : Statement .sessionReset := by
  simp [Statement, encode, encodeWord, encodeOperands, rowOf, opcodeRows, bytesRow, bareRow]
theorem rxFrame (frame : Bytes) : Statement (.rxFrame frame) := by
  simp [Statement, encode, encodeWord, encodeOperands, rowOf, opcodeRows, bytesRow, bareRow, Operand.type]

end Sys2Proof.Laws.EncodesToItsRow
end

