-- ==== Sys2Proof/Machine/Assembly.lean ====
section
/-! DEFINITION. The assembler syntax of 30_encoding.md R97, as a printer of instructions. -/

namespace Sys2Proof.Machine

/-- A hexadecimal digit, in capitals. -/
def hexDigit (n : Nat) : Char := ("0123456789ABCDEF".toList).getD n '0'

/-- The two hexadecimal digits of a byte. -/
def hexByte (b : Byte) : String := String.ofList [hexDigit (b.toNat / 16), hexDigit (b.toNat % 16)]

/-- A `Byte`: `0x55`. -/
def asmByte (b : Byte) : String := "0x" ++ hexByte b

/-- A `Bytes`: in brackets as hex bytes, `[02 01]`. -/
def asmBytes (s : Bytes) : String := "[" ++ String.intercalate " " (s.map hexByte) ++ "]"

/-- A `Time`: `t=3001`. -/
def asmTime (t : Nat) : String := "t=" ++ toString t

/-- A modifier, when it is set. -/
def asmModifier (on : Bool) (m : String) : String := if on then m else ""

/-- `MNEMONIC[.MOD]... operand, operand` (30_encoding.md R97). -/
def assembly : Instr → String
  | .cipherInit key => "CIPHER_INIT " ++ asmBytes key
  | .cipherEncrypt data => "CIPHER_ENCRYPT " ++ asmBytes data
  | .cipherDecrypt data => "CIPHER_DECRYPT " ++ asmBytes data
  | .cipherIsReady => "CIPHER_IS_READY"
  | .crc32 data => "CRC32 " ++ asmBytes data
  | .crcStamp region => "CRC_STAMP " ++ asmBytes region
  | .crcValidate region => "CRC_VALIDATE " ++ asmBytes region
  | .packetBuild cmd none data => "PACKET_BUILD " ++ asmByte cmd ++ ", " ++ asmBytes data
  | .packetBuild cmd (some param) data =>
    "PACKET_BUILD.P " ++ asmByte cmd ++ ", " ++ asmByte param ++ ", " ++ asmBytes data
  | .frameEncode r e content => "FRAME_ENCODE" ++ asmModifier r ".R" ++ asmModifier e ".E" ++ " " ++ asmBytes content
  | .frameDecode frame => "FRAME_DECODE " ++ asmBytes frame
  | .rxByte b t => "RX_BYTE " ++ asmByte b ++ ", " ++ asmTime t
  | .txWrite w => "TX_WRITE " ++ asmBytes w
  | .txWriteDone s => "TX_WRITE_DONE" ++ asmModifier s ".S"
  | .bleNotify value t => "BLE_NOTIFY " ++ asmBytes value ++ ", " ++ asmTime t
  | .authBuild key enableFlag => "AUTH_BUILD " ++ asmBytes key ++ ", " ++ asmByte enableFlag
  | .authCheck o echo => "AUTH_CHECK" ++ asmModifier o ".O" ++ " " ++ asmBytes echo
  | .send r content => "SEND" ++ asmModifier r ".R" ++ " " ++ asmBytes content
  | .sessionReset => "SESSION_RESET"
  | .rxFrame frame => "RX_FRAME " ++ asmBytes frame

end Sys2Proof.Machine
end

