-- ==== Sys2Proof/Tests/Slice0.lean ====
section
/-! SUPPORT. Tests on values of the spec's own vectors (95_test_vectors.md, named V-...), words written out from
30_encoding.md R90, R94 and R95, and a state that meets the hypotheses of each obligation that has some. -/

namespace Sys2Proof.Tests

open Sys2Proof Sys2Proof.Machine

set_option Elab.async false

/-! ### Helpers -/

/-- The state a command leaves. -/
def after (i : Instr) (s : State) : State :=
  match exec i s with
  | .next t => t
  | _ => s

/-- The next state of an answer. -/
def nextOf (a : Answer) : Option State :=
  match a with
  | .next t => some t
  | _ => none

theorem eq_next_of_nextOf {a : Answer} {t : State} (h : nextOf a = some t) : a = .next t := by
  cases a <;> simp_all [nextOf]

theorem exists_next_of_nextOf {a : Answer} (h : (nextOf a).isSome = true) : ∃ t, a = .next t := by
  cases a <;> simp_all [nextOf]

/-- The 16 bytes `a`, `a + 1`, ... of the vectors. -/
def ramp (a : Nat) : Block := blockOf fun i => BitVec.ofNat 8 (a + i)

/-- The three draws of the vectors (95_test_vectors.md, Fixed inputs). -/
def drawn : State := { State.reset with entropy := [ramp 0x10, ramp 0x20, ramp 0x30] }

/-- A session after CIPHER_INIT with the vectors' key and first draw. -/
def ready : State :=
  { State.reset with
    key := ramp 0, iv := ramp 0x10, encChain := ramp 0x10, decChain := ramp 0x10, ready := true }

/-- That session with a challenge. -/
def challenged : State := { ready with cmp := ramp 0x30, cmpValid := true }

/-- A backend of type SPP. -/
def spp : State := State.powerOn { Config.vectors with backend := .spp }

/-- The refused mode of 45_chunker.md R272. -/
def special : State := State.powerOn { Config.vectors with specialChunkingMode := true }

/-- The body of the LED frame of V-SRC-8. -/
def ledBody : Bytes := [0x56, 0x60, 0x87, 0x30, 0x02, 0x01, 0, 0, 0, 0, 0, 0, 0, 0, 0, 0]

/-- The LED frame of V-SRC-8. -/
def led : Bytes := 0x55 :: 0x01 :: ledBody

/-- The payload region of the LED frame. -/
def ledPayload : Bytes := [0x02, 0x01, 0, 0, 0, 0, 0, 0, 0, 0, 0, 0]

/-- A state in the middle of a frame, the 17 bytes before its last received, and that byte at the command port. -/
def midFrame : State :=
  { State.reset with
    rxState := .awaitData, rxPos := 17, rxTarget := 18, rxBuf := led.set 17 0, lastByteTime := some 0
    pending := [⟨0x3000, [.byte 0, .time 0]⟩] }

/-! ### WellFormed refuses a timestamp wider than the interface (00_scope.md R8) -/

theorem test_wellFormed_refuses_rxByte_time : ¬ WellFormed (.rxByte 0x55 (2 ^ 64)) := by decide
theorem test_wellFormed_refuses_bleNotify_time : ¬ WellFormed (.bleNotify [] (2 ^ 64)) := by decide
theorem test_wellFormed_takes_largest_time :
    WellFormed (.rxByte 0x55 (2 ^ 64 - 1)) ∧ WellFormed (.bleNotify [] (2 ^ 64 - 1)) := by decide

/-! ### Words written out from 30_encoding.md R90, R94 and R95: opcode, R, E, five zero bits, P/S/O -/

theorem test_decode_cipherInit :
    decode ⟨0b00000001_0_0_00000_0, [.bytes [0xAA]]⟩ = .ok (.cipherInit [0xAA]) := by decide
theorem test_decode_cipherEncrypt :
    decode ⟨0b00000010_0_0_00000_0, [.bytes [0xAA]]⟩ = .ok (.cipherEncrypt [0xAA]) := by decide
theorem test_decode_cipherDecrypt :
    decode ⟨0b00000011_0_0_00000_0, [.bytes [0xAA]]⟩ = .ok (.cipherDecrypt [0xAA]) := by decide
theorem test_decode_cipherIsReady : decode ⟨0b00000100_0_0_00000_0, []⟩ = .ok .cipherIsReady := by decide
theorem test_decode_crc32 : decode ⟨0b00010000_0_0_00000_0, [.bytes [0xAA]]⟩ = .ok (.crc32 [0xAA]) := by decide
theorem test_decode_crcStamp : decode ⟨0b00010001_0_0_00000_0, [.bytes [0xAA]]⟩ = .ok (.crcStamp [0xAA]) := by decide
theorem test_decode_crcValidate :
    decode ⟨0b00010010_0_0_00000_0, [.bytes [0xAA]]⟩ = .ok (.crcValidate [0xAA]) := by decide
theorem test_decode_packetBuild :
    decode ⟨0b00100000_0_0_00000_0, [.byte 0x07, .bytes [0xAA]]⟩ = .ok (.packetBuild 0x07 none [0xAA]) ∧
    decode ⟨0b00100000_0_0_00000_1, [.byte 0x02, .byte 0x01, .bytes []]⟩ =
      .ok (.packetBuild 0x02 (some 0x01) []) := by decide
theorem test_decode_frameEncode :
    decode ⟨0b00100001_0_0_00000_0, [.bytes [0xAA]]⟩ = .ok (.frameEncode false false [0xAA]) ∧
    decode ⟨0b00100001_1_0_00000_0, [.bytes [0xAA]]⟩ = .ok (.frameEncode true false [0xAA]) ∧
    decode ⟨0b00100001_0_1_00000_0, [.bytes [0xAA]]⟩ = .ok (.frameEncode false true [0xAA]) := by decide
theorem test_decode_frameDecode :
    decode ⟨0b00100010_0_0_00000_0, [.bytes [0xAA]]⟩ = .ok (.frameDecode [0xAA]) := by decide
theorem test_decode_rxByte :
    decode ⟨0b00110000_0_0_00000_0, [.byte 0x55, .time 3001]⟩ = .ok (.rxByte 0x55 3001) := by decide
theorem test_decode_txWrite : decode ⟨0b01000000_0_0_00000_0, [.bytes [0xAA]]⟩ = .ok (.txWrite [0xAA]) := by decide
theorem test_decode_txWriteDone :
    decode ⟨0b01000001_0_0_00000_0, []⟩ = .ok (.txWriteDone false) ∧
    decode ⟨0b01000001_0_0_00000_1, []⟩ = .ok (.txWriteDone true) := by decide
theorem test_decode_bleNotify :
    decode ⟨0b01000010_0_0_00000_0, [.bytes [0xAA], .time 7]⟩ = .ok (.bleNotify [0xAA] 7) := by decide
theorem test_decode_authBuild :
    decode ⟨0b01010000_0_0_00000_0, [.bytes [0xAA], .byte 0x01]⟩ = .ok (.authBuild [0xAA] 0x01) := by decide
theorem test_decode_authCheck :
    decode ⟨0b01010001_0_0_00000_0, [.bytes [0xAA]]⟩ = .ok (.authCheck false [0xAA]) ∧
    decode ⟨0b01010001_0_0_00000_1, [.bytes [0xAA]]⟩ = .ok (.authCheck true [0xAA]) := by decide
theorem test_decode_send :
    decode ⟨0b01010010_0_0_00000_0, [.bytes [0xAA]]⟩ = .ok (.send false [0xAA]) ∧
    decode ⟨0b01010010_1_0_00000_0, [.bytes [0xAA]]⟩ = .ok (.send true [0xAA]) := by decide
theorem test_decode_sessionReset : decode ⟨0b01010011_0_0_00000_0, []⟩ = .ok .sessionReset := by decide
theorem test_decode_rxFrame : decode ⟨0b01010100_0_0_00000_0, [.bytes [0xAA]]⟩ = .ok (.rxFrame [0xAA]) := by decide

/-- A word with a reserved bit or an unused modifier is illegal; a wrong operand list is a bad operand. -/
theorem test_decode_rejects :
    decode ⟨0x0102, [.bytes []]⟩ = .error .illegalCommand ∧ decode ⟨0x0180, [.bytes []]⟩ = .error .illegalCommand ∧
    decode ⟨0x2101, [.bytes []]⟩ = .error .illegalCommand ∧ decode ⟨0x5240, [.bytes []]⟩ = .error .illegalCommand ∧
    decode ⟨0xFF00, []⟩ = .error .illegalCommand ∧ decode ⟨0x2001, [.byte 2, .bytes []]⟩ = .error .badOperand ∧
    decode ⟨0x0400, [.byte 0]⟩ = .error .badOperand := by decide

/-- A table word is read with operands of zeros (log entry 8), and is what the next step runs. -/
theorem test_table_word :
    decodeTableWord 16 0x2001 = some (.packetBuild 0 (some 0) []) ∧ decodeTableWord 16 0x2101 = none ∧
    (State.reset.withFetchWord 16 0x3000).pending = [⟨0x3000, [.byte 0, .time 0]⟩] := by decide

/-- The examples of 30_encoding.md R97. -/
theorem test_assembly :
    assembly (.frameEncode true true [0x02, 0x01]) = "FRAME_ENCODE.R.E [02 01]" ∧
    assembly (.rxByte 0x55 3001) = "RX_BYTE 0x55, t=3001" := by decide +kernel

/-! ### One step of each command -/

/-- V-CBC-1, the first command. -/
theorem test_cipherInit_returns_draw :
    (after (.cipherInit (blockBytes (ramp 0))) drawn).result = some (.ok (.bytes (blockBytes (ramp 0x10)))) ∧
    (after (.cipherInit (blockBytes (ramp 0))) drawn).decChain = ramp 0x10 := by decide +kernel
/-- V-CBC-5. -/
theorem test_cipherInit_bad_key :
    after (.cipherInit (zeros 24)) ready = { ready with ready := false, result := some (.error 0x0500) } := by
  decide +kernel
/-- V-CBC-1, its first block. -/
theorem test_cipherEncrypt_first_block :
    (after (.cipherEncrypt (blockBytes (ramp 0x40))) ready).result =
      some (.ok (.bytes [0x34, 0xAA, 0x4A, 0x15, 0x6D, 0x49, 0x30, 0xD9, 0x9A, 0x62, 0x2F, 0xED, 0x6A, 0x5D, 0x4A,
        0x0C])) := by decide +kernel
/-- V-CBC-3. -/
theorem test_cipherEncrypt_not_ready :
    (after (.cipherEncrypt (zeros 16)) State.reset).result = some (.fault .notReady) ∧
    (after (.cipherEncrypt (zeros 16)) State.reset).fault = some .notReady := by decide +kernel
/-- V-CBC-2, its first block. -/
theorem test_cipherDecrypt_first_block :
    (after (.cipherDecrypt [0x34, 0xAA, 0x4A, 0x15, 0x6D, 0x49, 0x30, 0xD9, 0x9A, 0x62, 0x2F, 0xED, 0x6A, 0x5D, 0x4A,
        0x0C]) ready).result = some (.ok (.bytes (blockBytes (ramp 0x40)))) := by decide +kernel
/-- R147, not whole blocks. -/
theorem test_cipherDecrypt_not_aligned :
    (after (.cipherDecrypt (zeros 17)) ready).result = some (.fault .notAligned) := by decide +kernel
/-- V-CBC-6. -/
theorem test_cipherIsReady :
    (after .cipherIsReady State.reset).result = some (.ok (.byte 0x00)) ∧
    (after .cipherIsReady ready).result = some (.ok (.byte 0x01)) := by decide +kernel
/-- V-CRC-1. -/
theorem test_crc32_check_value :
    (after (.crc32 [0x31, 0x32, 0x33, 0x34, 0x35, 0x36, 0x37, 0x38, 0x39]) State.reset).result =
      some (.ok (.word 0xCBF43926)) := by decide +kernel
/-- V-CRC-6. -/
theorem test_crc32_one_byte :
    (after (.crc32 [0x00]) State.reset).result = some (.ok (.word 0xD202EF8D)) := by decide +kernel
/-- V-CRC-7. -/
theorem test_crcStamp_short_and_empty :
    (after (.crcStamp [1, 2, 3]) State.reset).result = some (.fault .badOperand) ∧
    (after (.crcStamp [0xAA, 0xBB, 0xCC, 0xDD]) State.reset).result = some (.ok (.bytes [0, 0, 0, 0])) := by
  decide +kernel
/-- V-CRC-8: the big-endian CRC is valid, the little-endian one is not. -/
theorem test_crcValidate_byte_order :
    (after (.crcValidate ledBody) State.reset).result = some (.ok (.byte 0x01)) ∧
    (after (.crcValidate ([0x30, 0x87, 0x60, 0x56] ++ ledBody.drop 4)) State.reset).result =
      some (.ok (.byte 0x00)) := by decide +kernel
/-- V-FC-1. -/
theorem test_packetBuild_content :
    (after (.packetBuild 0x02 (some 0x01) []) State.reset).result = some (.ok (.bytes [0x02, 0x01])) ∧
    (after (.packetBuild 0x07 none [0xAA]) State.reset).result = some (.ok (.bytes [0x07, 0xAA])) := by
  decide +kernel
/-- V-SRC-8. -/
theorem test_frameEncode_led :
    (after (.frameEncode false false [0x02, 0x01]) State.reset).result = some (.ok (.bytes led)) := by decide +kernel
/-- V-FC-3, 13 bytes of content, which take two sub-packets. -/
theorem test_frameEncode_two_subpackets :
    (after (.frameEncode false false [0x21, 1, 2, 3, 4, 5, 6, 7, 8, 9, 10, 11, 12]) State.reset).result =
      some (.ok (.bytes ([0x55, 0x02, 0x53, 0xDB, 0x8F, 0xDB, 0x21, 1, 2, 3, 4, 5, 6, 7, 8, 9, 10, 11, 12] ++
        zeros 15))) := by decide +kernel
/-- V-SRC-2: the CRC protects the payload, and not the RESPOND flag. -/
theorem test_frameDecode_flips :
    (after (.frameDecode (led.set 2 0xD6)) State.reset).result = some (.corrupt .crcMismatch) ∧
    (after (.frameDecode (led.set 1 0x81)) State.reset).result = some (.ok (.bytes ledPayload)) := by decide +kernel
/-- V-SRC-2, the other header flips. -/
theorem test_frameDecode_header_flips :
    (after (.frameDecode (led.set 1 0x41)) State.reset).result = some (.corrupt .cipherNotReady) ∧
    (after (.frameDecode (led.set 1 0x03)) State.reset).result = some (.corrupt .invalidLength) ∧
    (after (.frameDecode (led.set 0 0xAA)) State.reset).result = some (.corrupt .invalidHeader) := by decide +kernel
/-- The last byte of the LED frame completes it (V-SRC-6, row 1: a gap of exactly 3000 ms is not stale). -/
theorem test_rxByte_completes_frame :
    (after (.rxByte 0 3000) midFrame).events = [.data ledPayload] ∧
    (after (.rxByte 0 3000) midFrame).rxState = .awaitTag := by decide +kernel
/-- V-SRC-6, row 4: a stale tag byte drops the frame and starts the next one. -/
theorem test_rxByte_stale_tag :
    (after (.rxByte 0x55 3001) midFrame).events = [] ∧
    (after (.rxByte 0x55 3001) midFrame).rxState = .awaitLength := by decide +kernel
/-- V-SRC-8 on BLE: one unit, in flight. -/
theorem test_txWrite_whole_frame :
    (after (.txWrite led) State.reset).events = [.txUnit led] ∧ (after (.txWrite led) State.reset).inFlight = true := by
  decide +kernel
/-- A header waits for its body (45_chunker.md R262). -/
theorem test_txWrite_header :
    (after (.txWrite [0x55, 0x02]) State.reset).hdrBuf = some (0x55, 0x02) ∧
    (after (.txWrite [0x55, 0x02]) State.reset).events = [] := by decide +kernel
/-- A completion issues the next unit; without a write in flight it is spurious (45_chunker.md R266). -/
theorem test_txWriteDone :
    (after (.txWriteDone true) { State.reset with inFlight := true, txQueue := [[1], [2]] }).events =
      [.txUnit [1]] ∧
    (after (.txWriteDone true) State.reset).result = some (.fault .spuriousCompletion) := by decide +kernel
/-- The LED frame in one notification (45_chunker.md R270). -/
theorem test_bleNotify_led :
    (after (.bleNotify led 5) State.reset).events = [.data ledPayload] ∧
    (after (.bleNotify led 5) State.reset).lastByteTime = some 5 := by decide +kernel
/-- V-AUTH-1. -/
theorem test_authBuild_content :
    (after (.authBuild (blockBytes (ramp 0)) 0x01) drawn).result = some (.ok (.bytes (0x11 :: 0x01 ::
      (blockBytes (ramp 0x10) ++
        [0x24, 0xC2, 0xE8, 0xB3, 0x80, 0xDF, 0xFD, 0xD1, 0xBE, 0x22, 0xD8, 0x70, 0x18, 0x70, 0xA9, 0x0B] ++
        blockBytes (ramp 0x30))))) := by decide +kernel
/-- V-AUTH-2. -/
theorem test_authCheck_accepts :
    (after (.authCheck true [0x9E, 0x3C, 0x31, 0x17, 0x88, 0xA3, 0xDA, 0xE7, 0xA3, 0xA6, 0x01, 0x8D, 0xA2, 0xC9, 0x8C,
        0xC6]) challenged).result = some (.ok (.byte 0x01)) := by decide +kernel
/-- R303: without a challenge. -/
theorem test_authCheck_no_challenge :
    (after (.authCheck true (zeros 16)) ready).result = some (.fault .noChallenge) := by decide +kernel
/-- V-SRC-8. -/
theorem test_send_led : (after (.send false [0x02, 0x01]) State.reset).events = [.txUnit led] := by decide +kernel
/-- 45_chunker.md R272. -/
theorem test_send_refused : (after (.send false [0x02, 0x01]) special).result = some (.fault .refused) := by
  decide +kernel
/-- 46_session.md R312. -/
theorem test_sessionReset_keeps_chain :
    (after .sessionReset challenged).ready = false ∧ (after .sessionReset challenged).cmpValid = false ∧
    (after .sessionReset challenged).encChain = ramp 0x10 := by decide +kernel
/-- 46_session.md R309. -/
theorem test_rxFrame :
    (after (.rxFrame led) State.reset).events = [.data ledPayload] ∧
    (after (.rxFrame (led.set 2 0)) State.reset).events = [] := by decide +kernel

/-! ### The hypotheses of the obligations can be met -/

theorem witness_DecodeOfEncodeReturnsInstruction : WellFormed (.bleNotify [0xFF] (2 ^ 64 - 1)) := by decide
theorem witness_DecodedCommandIsItsEncoding :
    decode ⟨0x3000, [.byte 0xAF, .time (BitVec.allOnes 64)]⟩ = .ok (.rxByte 0xAF (2 ^ 64 - 1)) := by decide
theorem witness_IllegalCommandExactlyByWord :
    decode ⟨0x0002, []⟩ = .error .illegalCommand ∧ decode ⟨0x2201, [.bytes []]⟩ = .error .illegalCommand ∧
    ({ State.reset with pending := [⟨0x0002, []⟩] } : State).pending = [⟨0x0002, []⟩] := by decide
theorem witness_BadOperandExactlyByTypes : decode ⟨0x4200, [.time 0, .bytes []]⟩ = .error .badOperand := by decide
theorem witness_StepRunsDecodedCommand :
    ∃ (s : State) (c : Command) (rest : List Command) (i : Instr), s.pending = c :: rest ∧ decode c = .ok i :=
  ⟨{ State.reset with pending := [⟨0x5200, [.bytes [0x02]]⟩] }, _, _, .send false [0x02], rfl, by decide⟩
theorem witness_RejectedCommandRaisesItsFault :
    (∃ (s : State) (c : Command) (rest : List Command),
      s.pending = c :: rest ∧ decode c = .error .illegalCommand) ∧
    (∃ (s : State) (c : Command) (rest : List Command), s.pending = c :: rest ∧ decode c = .error .badOperand) ∧
    State.reset.pending = [] :=
  ⟨⟨{ State.reset with pending := [⟨0x0000, []⟩] }, _, _, rfl, by decide⟩,
   ⟨{ State.reset with pending := [⟨0x3000, [.byte 0]⟩] }, _, _, rfl, by decide⟩, rfl⟩
theorem witness_FaultingCommandChangesNothing :
    (∃ t k, exec (.txWriteDone false) State.reset = .next t ∧ t.result = some (.fault k)) ∧
    (∃ (s t : State) (c : Command) (rest : List Command) (k : FaultKind), s.pending = c :: rest ∧ step s = .next t ∧
      t.result = some (.fault k)) :=
  ⟨⟨_, _, rfl, rfl⟩, ⟨{ State.reset with pending := [⟨0x0000, []⟩] }, _, _, _, _, rfl, rfl, rfl⟩⟩
theorem witness_FirstFaultIsSticky :
    (∃ s t, step s = .next t ∧ s.pending ≠ [] ∧ s.fault = some .notAligned) ∧
    (∃ s t k, step s = .next t ∧ s.pending ≠ [] ∧ s.fault = none ∧ t.fault = some k) ∧
    (∃ t, step State.reset = .next t ∧ State.reset.pending = []) :=
  ⟨⟨{ State.reset with fault := some .notAligned, pending := [⟨0x5300, []⟩] }, _, rfl, by decide, rfl⟩,
   ⟨{ State.reset with pending := [⟨0x4101, []⟩] }, _, .spuriousCompletion, rfl, by decide, rfl, rfl⟩, ⟨_, rfl, rfl⟩⟩
theorem witness_ElementsHaveTheirWritersOnly : ∃ t, exec (.rxByte 0 0) midFrame = .next t := ⟨_, rfl⟩
theorem witness_EventsAreAppendedByKind :
    (∃ t, exec (.bleNotify led 0) State.reset = .next t) ∧ opcode (.rxByte 0 0) ≠ 0x42 := ⟨⟨_, rfl⟩, by decide⟩
theorem midFrame_inv : Inv midFrame where
  bufLength := by decide
  posInBuf := by decide
  targetShape := .inr ⟨1, by decide⟩
  dataState := fun _ => by decide
  wdBound := by decide
  creditFree := fun _ => by decide
  queueUnits := fun u h => by simp [midFrame, State.reset, State.powerOn] at h
  headerOnlyBle := fun _ => by decide
  authHasChallenge := fun h => absurd h (by decide)
  encOutHasChallenge := fun h => absurd h (by decide)
  faultKept := fun k h => by simp [midFrame, State.reset, State.powerOn] at h
/-- The step of these two witnesses runs a command: it completes the frame and emits its payload. -/
theorem midFrame_step :
    (∃ t, step midFrame = .next t) ∧ (nextOf (step midFrame)).map State.events = some [.data ledPayload] :=
  ⟨exists_next_of_nextOf (by decide +kernel), by decide +kernel⟩
theorem witness_StepKeepsInvariant : Inv midFrame ∧ ∃ t, step midFrame = .next t := ⟨midFrame_inv, midFrame_step.1⟩
theorem witness_StepKeepsOutputsLegal :
    Inv midFrame ∧ OutputsLegal midFrame ∧ ∃ t, step midFrame = .next t :=
  ⟨midFrame_inv, by simp [OutputsLegal, midFrame, State.reset, State.powerOn], midFrame_step.1⟩
theorem witness_UnspecifiedBitsAreUnobservable :
    SameObservable State.reset { State.reset with key := ramp 1, encChain := ramp 2, decChain := ramp 3, cmp := ramp 4 } :=
  ⟨rfl, fun h => absurd h (by decide), fun h => absurd h (by decide), fun h => absurd h (by decide),
    fun h => absurd h (by decide)⟩
theorem witness_ChainingAcrossCallsIsInvisible : (zeros 32).length % 16 = 0 ∧ ([] : Bytes).length % 16 = 0 := by decide
theorem witness_DecryptStreamInvertsEncryptStream :
    (zeros 32).length % 16 = 0 ∧ ready.decChain = ready.encChain := by decide +kernel
theorem witness_WrongChainSpoilsFirstBlockOnly : ramp 0 ≠ ramp 1 := by decide
theorem witness_CipherInitSeedsBothStreams : (zeros 16).length = 16 ∧ (zeros 15).length ≠ 16 := by decide
theorem witness_BadKeyFailsClosed :
    (∃ t, exec (.cipherInit (zeros 15)) { ready with encOut := true } = .next t ∧ (zeros 15).length ≠ 16 ∧
      t.config.specialChunkingMode = false ∧ t.encOut = true) ∧
    (∃ t, exec (.authBuild (zeros 17) 0x01) ready = .next t ∧ (zeros 17).length ≠ 16) ∧
    zeros 1 ≠ [] ∧ zeros 268 ≠ [] ∧ (zeros 268).length ≤ 268 ∧
    (led.set 1 0x41).length = 2 + 16 * 1 ∧ ((led.set 1 0x41).getD 1 0 &&& 0x3F).toNat = 1 ∧
    ((led.set 1 0x41).getD 1 0).getLsbD 6 = true ∧ ((0x51 : Byte) &&& 0x3F).toNat = 17 :=
  ⟨⟨_, rfl, by decide, rfl, rfl⟩, ⟨_, rfl, by decide⟩, by decide +kernel⟩
theorem witness_CipherEncryptIsChainedAes :
    State.reset.ready = false ∧ ready.ready = true ∧ (zeros 15).length % 16 ≠ 0 ∧ ([] : Bytes).length % 16 = 0 ∧ (zeros 16).length % 16 = 0 := by decide +kernel
theorem witness_CipherDecryptIsChainedAes :
    State.reset.ready = false ∧ ready.ready = true ∧ (zeros 17).length % 16 ≠ 0 ∧ (zeros 48).length % 16 = 0 := by
  decide +kernel
theorem witness_CipherMisuseFaults :
    (∃ t, exec .sessionReset ready = .next t) ∧
    (State.reset.ready = false ∧ zeros 268 ≠ [] ∧ (zeros 268).length ≤ 268) ∧
    (∃ s : State, s.ready = false ∧ s.cmpValid = true ∧ (zeros 16).length = 16) ∧
    (∃ s : State, s.ready = false ∧ s.config.specialChunkingMode = false ∧ zeros 1 ≠ [] ∧ (zeros 1).length ≤ 268 ∧
      s.encOut = true) :=
  ⟨⟨_, rfl⟩, by decide +kernel, ⟨{ State.reset with cmpValid := true }, by decide +kernel⟩,
    ⟨{ State.reset with encOut := true }, by decide +kernel⟩⟩
theorem witness_CipherIsReadyReportsReady :
    (∃ t, exec (.cipherInit (zeros 15)) ready = .next t) ∧ (∃ t, exec (.authBuild (zeros 16) 0) drawn = .next t) ∧
    (∃ t, exec .sessionReset ready = .next t) := ⟨⟨_, rfl⟩, ⟨_, rfl⟩, ⟨_, rfl⟩⟩
theorem witness_CrcStampAndValidate : (zeros 3).length < 4 ∧ 4 ≤ (zeros 4).length := by decide
theorem witness_CrcDetectsEverySingleBitError :
    4 ≤ (zeros 4).length ∧ 3 < (zeros 4).length ∧ 7 < 8 ∧ (zeros 4).take 4 = be32 (crc32 ((zeros 4).drop 4)) ∧
    15 < ledBody.length ∧ ledBody.take 4 = be32 (crc32 (ledBody.drop 4)) := by decide +kernel
theorem witness_SubpacketCountIsTheSmallest :
    subpacketsFor 1 = 1 ∧ subpacketsFor 12 = 1 ∧ subpacketsFor 13 = 2 ∧ subpacketsFor 28 = 2 ∧
    subpacketsFor 253 = 17 ∧ subpacketsFor 268 = 17 := by decide
theorem witness_PlainFrameEncodeBytes :
    (zeros 1 ≠ [] ∧ (zeros 1).length ≤ 268) ∧ zeros 268 ≠ [] ∧ (zeros 268).length ≤ 268 := by decide +kernel
theorem witness_EncryptedFrameEncodeBytes :
    ready.ready = true ∧ zeros 268 ≠ [] ∧ (zeros 268).length ≤ 268 ∧ zeros 1 ≠ [] := by decide +kernel
theorem witness_IllegalContentFaults :
    268 < (zeros 269).length ∧ State.reset.config.specialChunkingMode = false := by decide +kernel
theorem witness_FrameDecodeChecksInOrder :
    ∃ n : Nat, n = (led.getD 1 0 &&& 0x3F).toNat ∧ n = 1 ∧ (zeros 2).length = 2 ∧ led.length = 2 + 16 * n :=
  ⟨1, by decide⟩
theorem witness_FrameDecodeInvertsFrameEncode :
    (∃ t frame, exec (.frameEncode true false (zeros 12)) State.reset = .next t ∧
      t.result = some (.ok (.bytes frame)) ∧ ∃ u, exec (.frameDecode frame) t = .next u) ∧
    (∃ t frame, ready.ready = true ∧ ready.decChain = ready.encChain ∧
      exec (.frameEncode false true (zeros 13)) ready = .next t ∧ t.result = some (.ok (.bytes frame))) :=
  ⟨⟨_, _, rfl, rfl, exists_next_of_nextOf (by decide +kernel)⟩, ⟨_, _, rfl, rfl, rfl, rfl⟩⟩
/-- A state for each transition of RX_BYTE: a counted marker below and at the limit, the last byte of a frame, a byte
before the last, and the discard of N = 0. -/
theorem witness_RxByteTransitions :
    (after (.rxByte 0xAF 0) { State.reset with wdCount := 1023 }).wdCount = 1024 ∧
    (after (.rxByte 0xAF 0) { State.reset with wdCount := 1024 }).wdCount = 0 ∧
    (after (.rxByte 0xFF 0) { State.reset with rxState := .awaitLength }).rxTarget = 1010 ∧
    (after (.rxByte 0 0) midFrame).rxState = .awaitTag ∧
    (after (.rxByte 0 0) { midFrame with rxPos := 16 }).rxState = .awaitData ∧
    (after (.rxByte 0x55 0) { midFrame with rxPos := 2, rxTarget := 2, rxBuf := [0x55, 0] }).rxState = .awaitTag := by
  decide +kernel
theorem witness_RxFrameEmitsDecodedPayload :
    (∃ t p, exec (.frameDecode led) State.reset = .next t ∧ t.result = some (.ok (.bytes p))) ∧
    (∃ t r, exec (.frameDecode [0x55]) State.reset = .next t ∧ t.result = some (.corrupt r)) :=
  ⟨⟨{ State.reset with result := some (.ok (.bytes ledPayload)) }, ledPayload,
      eq_next_of_nextOf (by decide +kernel), rfl⟩, ⟨_, _, rfl, rfl⟩⟩
theorem witness_BleNotifyIsRxByteInOrder :
    ∃ s' u, exec (.rxByte 0x55 0) State.reset = .next s' ∧ exec (.bleNotify [0x01] 0) s' = .next u := ⟨_, _, rfl, rfl⟩
theorem witness_WholeFrameIsDispatchedOnce :
    State.reset.rxState = .awaitTag ∧ ((0xC0 : Byte) &&& 0x3F).toNat = 0 ∧ ((0x01 : Byte) &&& 0x3F).toNat = 1 ∧
    ledBody.length = 16 * 1 ∧ ((0xFF : Byte) &&& 0x3F).toNat = 63 ∧ (zeros 1008).length = 16 * 63 := by decide +kernel
theorem witness_StaleByteRestartsInAwaitTag :
    midFrame.lastByteTime = some 0 ∧ 0 + 3000 < 3001 ∧ 3000 ≤ 0 + 3000 ∧
    (∃ u, exec (.rxByte 1 0) { State.reset with rxState := .awaitLength } = .next u) := ⟨rfl, by decide, by decide, _, rfl⟩
theorem witness_WatchdogFiresOnMarker1025 : State.reset.rxState = .awaitTag ∧ State.reset.wdCount = 0 := by decide
theorem witness_TxWriteQueuesFrameUnits :
    State.reset.config.backend = .ble ∧ State.reset.config.specialChunkingMode = false ∧ State.reset.hdrBuf = none ∧
    led.length = 2 + 16 * 1 ∧ (zeros 274).length = 2 + 16 * 17 := by decide +kernel
theorem witness_HeaderThenBodyEqualsWholeFrame :
    (State.reset.config.backend = .ble ∧ State.reset.config.specialChunkingMode = false ∧ State.reset.hdrBuf = none ∧
      State.reset.txQueue = [] ∧ ledBody.length = 16 * 1) ∧
    (∃ t, exec (.txWrite [0x55, 0x01]) { State.reset with inFlight := true, txQueue := [[1]] } = .next t) :=
  ⟨by decide +kernel, _, rfl⟩
theorem witness_SppWriteIsOneUnit : spp.config.backend = .spp ∧ spp.config.specialChunkingMode = false := by decide
/-- Each clause at the edges of its lengths: 0, 1, 3, 15, 17, 19 bytes are bad; 2 and 18 bytes wait for a header. -/
theorem witness_ChunkerFaults :
    special.config.specialChunkingMode = true ∧
    ([0, 1, 3, 15, 17, 19].all fun n => decide ((zeros n).length = 0 ∨ (zeros n).length = 1 ∨
      (2 < (zeros n).length ∧ (zeros n).length < 16) ∨
      ((zeros n).length % 16 ≠ 0 ∧ (zeros n).length % 16 ≠ 2))) = true ∧
    (zeros 2).length % 16 = 2 ∧ (zeros 18).length % 16 = 2 ∧
    ({ State.reset with hdrBuf := some (0, 0) } : State).hdrBuf ≠ none ∧
    ({ ready with encOut := true } : State).ready = true := by decide +kernel
theorem witness_TxWriteDoneReleasesCredit :
    State.reset.inFlight = false ∧ ({ State.reset with inFlight := true } : State).inFlight = true := by decide
theorem witness_SingleCreditIsConserved :
    ∃ t, exec (.txWriteDone true) { State.reset with inFlight := true, txQueue := [[1]] } = .next t ∧
      Instr.txWriteDone true ≠ .sessionReset := ⟨_, rfl, by decide⟩
theorem witness_UnitsLeaveInQueueOrder :
    (∃ t, exec (.txWrite led) State.reset = .next t) ∧ Instr.txWrite led ≠ .sessionReset ∧
    Instr.txWrite led ≠ .txWriteDone false ∧ opcode (.txWriteDone true) ≠ 0x40 ∧ opcode (.txWriteDone true) ≠ 0x52 :=
  ⟨⟨_, rfl⟩, by decide⟩
theorem witness_AuthBuildMakesAuthPacket :
    (zeros 16).length = 16 ∧ (zeros 17).length ≠ 16 ∧ drawAt drawn 0 = ramp 0x10 ∧ drawAt drawn 1 = ramp 0x20 ∧
    drawAt drawn 2 = ramp 0x30 := by decide +kernel
theorem witness_AuthCheckComparesDecryptedEcho :
    State.reset.cmpValid = false ∧ challenged.cmpValid = true ∧ (zeros 15).length ≠ 16 ∧ challenged.ready = true := by
  decide +kernel
theorem witness_ExactlyOneEchoIsAccepted :
    challenged.cmpValid = true ∧ challenged.ready = true ∧ challenged.decChain = challenged.iv ∧
    (zeros 16).length = 16 ∧ ∃ t, exec (.authCheck true (zeros 16)) challenged = .next t := by
  refine ⟨by decide +kernel, by decide +kernel, by decide +kernel, by decide +kernel, ?_⟩
  simp only [exec, execAuthCheck, block16]
  split <;> [exact ⟨_, rfl⟩; (split <;> [exact ⟨_, rfl⟩; (split <;> [exact ⟨_, rfl⟩; (split <;> exact ⟨_, rfl⟩)])])]
theorem witness_HandshakeSynchronisesChains :
    ∃ t, exec (.authBuild (zeros 16) 0x01) drawn = .next t ∧ (zeros 16).length = 16 ∧
      ∃ u, exec (.authCheck true (blockBytes (aesE (blockOfBytes (zeros 16)) (blockXor t.cmp t.iv)))) t = .next u := by
  refine ⟨_, rfl, by decide, ?_⟩
  simp only [exec, execAuthCheck]
  split <;> [exact ⟨_, rfl⟩; (split <;> [exact ⟨_, rfl⟩; (split <;> [exact ⟨_, rfl⟩; (split <;> exact ⟨_, rfl⟩)])])]
/-- Each clause of the statement: the refused mode, content of 269 bytes, no cipher, a buffered header, and legal content
of 1 and of 268 bytes, in the clear and encrypted. -/
theorem witness_SendQueuesEncodedFrame :
    special.config.specialChunkingMode = true ∧ State.reset.config.specialChunkingMode = false ∧
    268 < (zeros 269).length ∧ zeros 1 ≠ [] ∧ zeros 268 ≠ [] ∧ (zeros 268).length ≤ 268 ∧
    (({ State.reset with encOut := true } : State).encOut = true ∧ State.reset.ready = false) ∧
    (State.reset.config.backend = .ble ∧ ({ State.reset with hdrBuf := some (0, 0) } : State).hdrBuf ≠ none) ∧
    State.reset.encOut = false ∧ State.reset.hdrBuf = none ∧ ready.ready = true ∧ spp.config.backend ≠ .ble := by
  decide +kernel
theorem witness_SessionResetAfterPowerOnIsIdle : ∃ t, exec .sessionReset midFrame = .next t := ⟨_, rfl⟩
theorem witness_PlainFrameLoopsBackAsData :
    ∃ t frame, State.reset.rxState = .awaitTag ∧ exec (.frameEncode false false [0x02, 0x01]) State.reset = .next t ∧
      t.result = some (.ok (.bytes frame)) ∧ ∃ u, exec (.bleNotify frame 0) t = .next u :=
  ⟨_, _, rfl, rfl, rfl, exists_next_of_nextOf (by decide +kernel)⟩

end Sys2Proof.Tests
end

section
/-! # The sticky fault flag (10_state.md R39; 60_exceptions.md R321, R322)

Raising a fault is the only operation that writes the flag. So every command either raises a fault, or completes with
another kind of result and the flag as it was: `RaisesOrCompletes`, which each command is shown to satisfy once. -/

namespace Sys2Proof.Machine

/-! ### The operations that leave the flag alone -/

section
variable (s : State)

@[simp] theorem State.issue_fault : s.issue.fault = s.fault := by
  obtain ⟨-, h⟩ | ⟨u, rest, -, -, h⟩ := issue_cases s <;> rw [h]

@[simp] theorem State.wdOther_fault : s.wdOther.fault = s.fault := by rw [wdOther_eq]

@[simp] theorem State.wdMarker_fault : s.wdMarker.fault = s.fault := by
  obtain ⟨-, h⟩ | ⟨-, h⟩ := wdMarker_cases s <;> rw [h]

@[simp] theorem State.afterEncode_fault (encrypt : Bool) (content : Bytes) :
    (s.afterEncode encrypt content).fault = s.fault := by rw [afterEncode_eq]

@[simp] theorem State.afterDecode_fault (frame : Bytes) : (s.afterDecode frame).fault = s.fault := by
  rw [afterDecode_eq]

@[simp] theorem State.receiveFrame_fault (frame : Bytes) : (s.receiveFrame frame).fault = s.fault := by
  obtain ⟨p, -, h⟩ | ⟨r, -, h⟩ := receiveFrame_cases frame s <;> simp [h]

@[simp] theorem tagStep_fault (b : Byte) : (tagStep b s).fault = s.fault := by
  unfold tagStep
  split
  · simp
  · split <;> simp

@[simp] theorem lengthStep_fault (b : Byte) : (lengthStep b s).fault = s.fault := by simp [lengthStep]

@[simp] theorem storeByte_fault (b : Byte) : (storeByte b s).fault = s.fault := by simp [storeByte]

@[simp] theorem dataStep_fault (b : Byte) : (dataStep b s).fault = s.fault := by
  unfold dataStep
  split
  · simp
  · split <;> simp

@[simp] theorem rxStep_fault (b : Byte) (t : Nat) : (rxStep b t s).fault = s.fault := by
  have harrive : (arrive t s).fault = s.fault := rfl
  obtain ⟨-, h⟩ | ⟨-, h⟩ | ⟨-, h⟩ := rxStep_cases b t s <;> simp [h, harrive]

@[simp] theorem rxSteps_fault (value : Bytes) (t : Nat) : (rxSteps value t s).fault = s.fault := by
  induction value generalizing s with
  | nil => rfl
  | cons b value ih => rw [rxSteps_cons, ih, rxStep_fault]

@[simp] theorem State.authBuilt_fault (k : Block) : (s.authBuilt k).fault = s.fault := by
  simp [State.authBuilt, State.authChallenged, State.authSeeded]

end

/-! ### What a command can answer -/

/-- The two ways a command ends: it raises a fault, or it puts a result that is no fault on the port with the sticky flag
as it was (60_exceptions.md R321, R322). -/
inductive RaisesOrCompletes (s : State) : Answer → Prop where
  | raises (k : FaultKind) : RaisesOrCompletes s (.next (s.raise k))
  | completes {u : State} {r : Result} (flagKept : u.fault = s.fault) (noFault : ∀ k, r ≠ .fault k) :
      RaisesOrCompletes s (.next (u.give r))

/-- A precondition checked first: where it is broken the command raises, and otherwise the rest of it decides. -/
theorem RaisesOrCompletes.check {s : State} {a : Answer} {c : Prop} {_ : Decidable c} {k : FaultKind}
    (rest : RaisesOrCompletes s a) : RaisesOrCompletes s (if c then .next (s.raise k) else a) := by
  split
  · exact .raises k
  · exact rest

/-- Queueing and issuing units completes with `OK([])`. -/
theorem sendUnits_completes {s u : State} (us : List Bytes) (h : u.fault = s.fault) :
    RaisesOrCompletes s (.next (u.sendUnits us)) :=
  .completes (by simp [h]) nofun

theorem txWriteBle_raisesOrCompletes (w : Bytes) (s : State) : RaisesOrCompletes s (.next (txWriteBle w s)) := by
  unfold txWriteBle
  cases writeForm w.length with
  | header =>
    dsimp only
    split
    · exact .raises _
    · exact sendUnits_completes _ rfl
  | body => exact sendUnits_completes _ rfl
  | frame =>
    dsimp only
    split
    · exact .raises _
    · exact sendUnits_completes _ rfl
  | bad => exact .raises _

theorem txWriteSpp_raisesOrCompletes (w : Bytes) (s : State) : RaisesOrCompletes s (.next (txWriteSpp w s)) := by
  unfold txWriteSpp
  split
  · exact .raises _
  · exact sendUnits_completes _ rfl

theorem execTxWrite_raisesOrCompletes (w : Bytes) (s : State) : RaisesOrCompletes s (execTxWrite w s) := by
  unfold execTxWrite
  refine .check ?_
  cases s.config.backend with
  | spp => exact txWriteSpp_raisesOrCompletes w s
  | ble => exact txWriteBle_raisesOrCompletes w s

theorem execTxWriteDone_raisesOrCompletes (success : Bool) (s : State) :
    RaisesOrCompletes s (execTxWriteDone success s) := by
  unfold execTxWriteDone
  refine .check ?_
  split
  · exact .completes (by simp) nofun
  · exact .completes rfl nofun

theorem execCipherInit_raisesOrCompletes (key : Bytes) (s : State) : RaisesOrCompletes s (execCipherInit key s) := by
  unfold execCipherInit
  cases block16 key with
  | none => exact .completes rfl nofun
  | some k => exact .completes (by simp) nofun

theorem execCipherEncrypt_raisesOrCompletes (data : Bytes) (s : State) :
    RaisesOrCompletes s (execCipherEncrypt data s) := by
  unfold execCipherEncrypt
  exact .check (.check (.completes rfl nofun))

theorem execCipherDecrypt_raisesOrCompletes (data : Bytes) (s : State) :
    RaisesOrCompletes s (execCipherDecrypt data s) := by
  unfold execCipherDecrypt
  exact .check (.check (.completes rfl nofun))

theorem execCrcStamp_raisesOrCompletes (region : Bytes) (s : State) :
    RaisesOrCompletes s (execCrcStamp region s) := by
  unfold execCrcStamp
  exact .check (.completes rfl nofun)

theorem execCrcValidate_raisesOrCompletes (region : Bytes) (s : State) :
    RaisesOrCompletes s (execCrcValidate region s) := by
  unfold execCrcValidate
  exact .check (.completes rfl nofun)

theorem execPacketBuild_raisesOrCompletes (cmd : Byte) (param : Option Byte) (data : Bytes) (s : State) :
    RaisesOrCompletes s (execPacketBuild cmd param data s) := by
  unfold execPacketBuild
  exact .check (.completes rfl nofun)

theorem execFrameEncode_raisesOrCompletes (respond encrypt : Bool) (content : Bytes) (s : State) :
    RaisesOrCompletes s (execFrameEncode respond encrypt content s) := by
  unfold execFrameEncode
  exact .check (.check (.completes (by simp) nofun))

theorem execFrameDecode_raisesOrCompletes (frame : Bytes) (s : State) :
    RaisesOrCompletes s (execFrameDecode frame s) := by
  unfold execFrameDecode
  cases s.decodedFrame frame with
  | ok p => exact .completes (by simp) nofun
  | error r => exact .completes (by simp) nofun

theorem execAuthBuild_raisesOrCompletes (key : Bytes) (enableFlag : Byte) (s : State) :
    RaisesOrCompletes s (execAuthBuild key enableFlag s) := by
  unfold execAuthBuild
  cases block16 key with
  | none => exact .completes rfl nofun
  | some k => exact .completes (by simp) nofun

theorem execAuthCheck_raisesOrCompletes (enableOutbound : Bool) (echo : Bytes) (s : State) :
    RaisesOrCompletes s (execAuthCheck enableOutbound echo s) := by
  unfold execAuthCheck
  refine .check ?_
  cases block16 echo with
  | none => exact .raises _
  | some e =>
    refine .check ?_
    split
    · exact .completes rfl nofun
    · exact .completes rfl nofun

theorem execSend_raisesOrCompletes (respond : Bool) (content : Bytes) (s : State) :
    RaisesOrCompletes s (execSend respond content s) := by
  unfold execSend
  exact .check (.check (.check (.check (sendUnits_completes _ (by simp)))))

theorem exec_raisesOrCompletes (i : Instr) (s : State) : RaisesOrCompletes s (exec i s) := by
  cases i with
  | cipherInit key => exact execCipherInit_raisesOrCompletes key s
  | cipherEncrypt data => exact execCipherEncrypt_raisesOrCompletes data s
  | cipherDecrypt data => exact execCipherDecrypt_raisesOrCompletes data s
  | cipherIsReady => exact .completes rfl nofun
  | crc32 data => exact .completes rfl nofun
  | crcStamp region => exact execCrcStamp_raisesOrCompletes region s
  | crcValidate region => exact execCrcValidate_raisesOrCompletes region s
  | packetBuild cmd param data => exact execPacketBuild_raisesOrCompletes cmd param data s
  | frameEncode respond encrypt content => exact execFrameEncode_raisesOrCompletes respond encrypt content s
  | frameDecode frame => exact execFrameDecode_raisesOrCompletes frame s
  | rxByte b t => exact .completes (by simp) nofun
  | txWrite w => exact execTxWrite_raisesOrCompletes w s
  | txWriteDone success => exact execTxWriteDone_raisesOrCompletes success s
  | bleNotify value t => exact .completes (by simp) nofun
  | authBuild key enableFlag => exact execAuthBuild_raisesOrCompletes key enableFlag s
  | authCheck enableOutbound echo => exact execAuthCheck_raisesOrCompletes enableOutbound echo s
  | send respond content => exact execSend_raisesOrCompletes respond content s
  | sessionReset => exact .completes (by simp) nofun
  | rxFrame frame => exact .completes (by simp) nofun

/-! ### One step -/

/-- With no command at the port a step changes nothing. -/
theorem step_of_pending_nil {s : State} (h : s.pending = []) : step s = .next s := by
  simp [step, fetchCommand, h]

/-- A step takes the first command off the port; if the decoder rejects it, that is a raised fault as well. -/
theorem step_raisesOrCompletes {s : State} {c : Command} {rest : List Command} (h : s.pending = c :: rest) :
    RaisesOrCompletes { s with pending := rest } (step s) := by
  simp only [step, fetchCommand, h]
  cases decode c with
  | ok i => exact exec_raisesOrCompletes i _
  | error e => exact .raises _

/-- Settles O10: by what a command can answer, the flag takes the raised kind if it held none, and else stays. -/
theorem firstFaultIsSticky : Obligations.FirstFaultIsSticky := by
  refine ⟨fun s t hstep => ⟨fun hidle => ?_, fun hcmd => ?_⟩, fun cfg => rfl⟩
  · rw [step_of_pending_nil hidle] at hstep
    cases hstep
    rfl
  · obtain ⟨c, rest, hpending⟩ := List.exists_cons_of_ne_nil hcmd
    have hends := step_raisesOrCompletes hpending
    rw [hstep] at hends
    cases hends with
    | raises k =>
      rw [State.raise_fault, stickyFault_eq, State.raise_result]
      cases s.fault <;> rfl
    | @completes u r flagKept noFault =>
      have hflag : (u.give r).fault = s.fault := flagKept
      rw [hflag, State.give_result]
      cases s.fault with
      | some first => rfl
      | none =>
        cases r with
        | fault k => exact absurd rfl (noFault k)
        | ok v => rfl
        | corrupt reason => rfl
        | error code => rfl

end Sys2Proof.Machine
end

section
/-! # Illegal commands (30_encoding.md R94, R96)

The opcode map is a list of `match` and `mask` words. Each row's pair is fixed by its opcode alone: the mask leaves free
the modifiers R94 lists for that opcode, and the pattern is the opcode over eight zero bits. So a word belongs to a row
exactly when the checks R96 names pass, and it is illegal when one of them fails. -/

namespace Sys2Proof

/-! ### The opcode map as R94 writes it -/

/-- The 19 opcodes R94 assigns. -/
def assignedOpcodes : List Byte :=
  [0x01, 0x02, 0x03, 0x04, 0x10, 0x11, 0x12, 0x20, 0x21, 0x22, 0x30, 0x40, 0x41, 0x42, 0x50, 0x51, 0x52, 0x53, 0x54]

/-- The opcodes whose rows use modifier `R`. -/
def respondOpcodes : List Byte := [0x21, 0x52]

/-- The opcodes whose rows use modifier `E`. -/
def encryptOpcodes : List Byte := [0x21]

/-- The opcodes whose rows use flag `X`: as `P`, `S` and `O`. -/
def flagOpcodes : List Byte := [0x20, 0x41, 0x51]

/-- The bits of a command word that the row of an opcode leaves free: the modifiers it uses. -/
def modifierBits (op : Byte) : Half :=
  modifier (op ∈ respondOpcodes) 0x0080 ||| modifier (op ∈ encryptOpcodes) 0x0040 |||
    modifier (op ∈ flagOpcodes) 0x0001

/-- The rows of the model's opcode map are those of R94: one per assigned opcode, with its modifiers free. -/
theorem opcodeRows_pattern_mask :
    opcodeRows.map (fun r => (r.pattern, r.mask)) =
      assignedOpcodes.map (fun op => (op ++ (0 : Byte), ~~~ modifierBits op)) := by decide

theorem getLsbD_modifierBits (op : Byte) (i : Nat) :
    (modifierBits op).getLsbD i =
      (decide (op ∈ respondOpcodes) && decide (i = 7) || decide (op ∈ encryptOpcodes) && decide (i = 6) ||
        decide (op ∈ flagOpcodes) && decide (i = 0)) := by
  have bit (on : Bool) (k : Nat) (hk : k < 16) :
      (modifier on (BitVec.twoPow 16 k)).getLsbD i = (on && decide (i = k)) := by
    cases on <;> simp [modifier, BitVec.getLsbD_twoPow, hk, eq_comm]
  simp only [modifierBits, BitVec.getLsbD_or]
  exact congrArg₂ or (congrArg₂ or (bit _ 7 (by decide)) (bit _ 6 (by decide))) (bit _ 0 (by decide))

@[simp] theorem modifierBits_respond (op : Byte) : (modifierBits op)[7] = decide (op ∈ respondOpcodes) := by
  simpa using getLsbD_modifierBits op 7

@[simp] theorem modifierBits_encrypt (op : Byte) : (modifierBits op)[6] = decide (op ∈ encryptOpcodes) := by
  simpa using getLsbD_modifierBits op 6

@[simp] theorem modifierBits_flag (op : Byte) : (modifierBits op)[0] = decide (op ∈ flagOpcodes) := by
  simpa using getLsbD_modifierBits op 0

/-- No other bit is left free by any row. -/
theorem modifierBits_fixed (op : Byte) {i : Nat} (h7 : i ≠ 7) (h6 : i ≠ 6) (h0 : i ≠ 0) :
    (modifierBits op).getLsbD i = false := by
  simp [getLsbD_modifierBits, h7, h6, h0]

/-! ### What it takes to match a row -/

theorem extractLsb'_eq_iff (w : Half) (start len : Nat) (field : BitVec len) :
    w.extractLsb' start len = field ↔ ∀ i < len, w.getLsbD (start + i) = field.getLsbD i := by
  rw [BitVec.eq_of_getLsbD_eq_iff]
  exact forall₂_congr fun i hi => by simp [hi]

/-- A word under its row's mask, bit by bit: the bits the row does not leave free are those of the opcode over zeros. -/
theorem masked_eq_iff (w : Half) (op : Byte) :
    w &&& ~~~ modifierBits op = op ++ (0 : Byte) ↔
      ∀ i < 16, (w.getLsbD i && !(modifierBits op).getLsbD i) = if i < 8 then false else op.getLsbD (i - 8) := by
  rw [BitVec.eq_of_getLsbD_eq_iff]
  refine forall₂_congr fun i hi => ?_
  simp only [BitVec.getLsbD_and, BitVec.getLsbD_not, BitVec.getLsbD_append, hi, decide_true, Bool.true_and]
  simp

/-- A word has the `match` bits of an opcode's row exactly when its opcode is that one and each of its lower bits is 0 or
a modifier the opcode uses. -/
theorem matches_row_iff (w : Half) (op : Byte) :
    w &&& ~~~ modifierBits op = op ++ (0 : Byte) ↔
      w.extractLsb' 8 8 = op ∧ w.extractLsb' 1 5 = 0 ∧ (w.getLsbD 7 = true → op ∈ respondOpcodes) ∧
        (w.getLsbD 6 = true → op ∈ encryptOpcodes) ∧ (w.getLsbD 0 = true → op ∈ flagOpcodes) := by
  rw [masked_eq_iff, extractLsb'_eq_iff, extractLsb'_eq_iff]
  constructor
  · intro h
    refine ⟨fun i hi => ?_, fun i hi => ?_, ?_, ?_, ?_⟩
    · simpa [modifierBits_fixed op (i := 8 + i) (by omega) (by omega) (by omega)] using h (8 + i) (by omega)
    · simpa [modifierBits_fixed op (i := 1 + i) (by omega) (by omega) (by omega), show 1 + i < 8 by omega]
        using h (1 + i) (by omega)
    · simpa using h 7 (by decide)
    · simpa using h 6 (by decide)
    · simpa using h 0 (by decide)
  · rintro ⟨hop, hreserved, hR, hE, hX⟩ i hi
    by_cases hhigh : 8 ≤ i
    · obtain ⟨j, rfl⟩ := Nat.exists_eq_add_of_le hhigh
      simpa [modifierBits_fixed op (i := 8 + j) (by omega) (by omega) (by omega)] using hop j (by omega)
    by_cases h7 : i = 7
    · subst h7; simpa using hR
    by_cases h6 : i = 6
    · subst h6; simpa using hE
    by_cases h0 : i = 0
    · subst h0; simpa using hX
    obtain ⟨j, rfl⟩ := Nat.exists_eq_add_of_le (Nat.one_le_iff_ne_zero.mpr h0)
    simp [hreserved j (by omega), show 1 + j < 8 by omega]

/-! ### The decoder rejects exactly the words R96 lists -/

/-- What makes a command word legal: its opcode is assigned, its reserved bits are 0, and its opcode uses each modifier
that is set (30_encoding.md R96). -/
def LegalWord (w : Half) : Prop :=
  w.extractLsb' 8 8 ∈ assignedOpcodes ∧ w.extractLsb' 1 5 = 0 ∧
    (w.getLsbD 7 = true → w.extractLsb' 8 8 ∈ respondOpcodes) ∧
    (w.getLsbD 6 = true → w.extractLsb' 8 8 ∈ encryptOpcodes) ∧
    (w.getLsbD 0 = true → w.extractLsb' 8 8 ∈ flagOpcodes)

theorem legalWord_iff_matches_row (w : Half) :
    LegalWord w ↔ ∃ op ∈ assignedOpcodes, w &&& ~~~ modifierBits op = op ++ (0 : Byte) := by
  simp only [matches_row_iff]
  constructor
  · rintro ⟨assigned, checks⟩
    exact ⟨_, assigned, rfl, checks⟩
  · rintro ⟨_, assigned, rfl, checks⟩
    exact ⟨assigned, checks⟩

theorem not_legalWord_iff (w : Half) :
    ¬ LegalWord w ↔ w.extractLsb' 8 8 ∉ assignedOpcodes ∨ w.extractLsb' 1 5 ≠ 0 ∨
      (w.getLsbD 7 = true ∧ w.extractLsb' 8 8 ∉ respondOpcodes) ∨
      (w.getLsbD 6 = true ∧ w.extractLsb' 8 8 ∉ encryptOpcodes) ∨
      (w.getLsbD 0 = true ∧ w.extractLsb' 8 8 ∉ flagOpcodes) := by
  simp only [LegalWord, not_and_or, Classical.not_imp, ne_eq]

/-- A word has a row in the model's opcode map unless it fails a check of R96. -/
theorem rowOf_eq_none_iff (w : Half) : rowOf w = none ↔ ¬ LegalWord w := by
  calc rowOf w = none
      ↔ ∀ row ∈ opcodeRows.map (fun r => (r.pattern, r.mask)), w &&& row.2 ≠ row.1 := by
        simp [rowOf, List.find?_eq_none]
    _ ↔ ∀ op ∈ assignedOpcodes, w &&& ~~~ modifierBits op ≠ op ++ (0 : Byte) := by
        rw [opcodeRows_pattern_mask, List.forall_mem_map]
    _ ↔ ¬ LegalWord w := by
        simp only [legalWord_iff_matches_row, not_exists, not_and, ne_eq]

theorem decode_eq_illegalCommand_iff (c : Command) :
    decode c = .error .illegalCommand ↔ rowOf c.word = none := by
  unfold decode
  cases rowOf c.word with
  | none => simp
  | some r => cases h : r.build c.word c.operands <;> simp [h]

end Sys2Proof

namespace Sys2Proof.Machine

/-! ### The step on a rejected command -/

/-- Raising a fault writes the result port and the sticky flag alone (60_exceptions.md R322). -/
theorem State.raise_eq_faulted (k : FaultKind) (s : State) : s.raise k = faulted k s := by
  rw [State.raise, stickyFault_eq]
  rfl

/-- A command the decoder rejects is taken off the port, and its fault is raised (30_encoding.md R91, R96). -/
theorem step_of_decode_error {s : State} {c : Command} {rest : List Command} {e : DecodeError}
    (hpending : s.pending = c :: rest) (hdecode : decode c = .error e) :
    step s = .next (faulted (decodeFault e) { s with pending := rest }) := by
  simp [step, fetchCommand, hpending, hdecode, State.raise_eq_faulted]

/-- Settles O3: the decoder finds no row exactly when a check of R96 fails, and the step then raises its fault. -/
theorem illegalCommandExactlyByWord : Obligations.IllegalCommandExactlyByWord := by
  refine ⟨fun c => ?_, fun s c rest hpending hdecode => step_of_decode_error hpending hdecode⟩
  rw [decode_eq_illegalCommand_iff, rowOf_eq_none_iff, not_legalWord_iff]
  simp only [assignedOpcodes, respondOpcodes, encryptOpcodes, flagOpcodes, List.mem_singleton, ne_eq]

end Sys2Proof.Machine
end

section
/-! # The S-box tables (41_cipher.md R132, R133)

Evaluating the search of `ginv` for all 256 bytes takes some 30000 products, so the inverse is found by algebra instead.
Undoing the affine map on a table entry gives a byte whose product with `x` is 1 on both sides, and the product is
associative, so that byte is the one the search finds. -/

namespace Sys2Proof.Machine

/-! ### The product in GF(2^8) -/

theorem xtime_zero : xtime 0 = 0 := by decide

theorem xtime_xor (a b : Byte) : xtime (a ^^^ b) = xtime a ^^^ xtime b := by
  have reduction : ∀ p q : Bool, (if (p ^^ q) then 0x1B else 0x00 : Byte) =
      (if p then 0x1B else 0x00) ^^^ (if q then 0x1B else 0x00) := by decide
  rw [xtime, xtime, xtime, BitVec.getLsbD_xor, reduction, BitVec.shiftLeft_xor_distrib]
  ac_rfl

theorem gmulBits_xor_left (n : Nat) (a b c : Byte) :
    gmulBits n (a ^^^ b) c = gmulBits n a c ^^^ gmulBits n b c := by
  induction n generalizing a b c with
  | zero => simp [gmulBits]
  | succ n ih =>
    rw [gmulBits, gmulBits, gmulBits, xtime_xor, ih]
    cases c.getLsbD 0 with
    | false => simp
    | true =>
      simp only [if_true]
      ac_rfl

theorem gmulBits_xtime_left (n : Nat) (a b : Byte) : gmulBits n (xtime a) b = xtime (gmulBits n a b) := by
  induction n generalizing a b with
  | zero => exact xtime_zero.symm
  | succ n ih =>
    rw [gmulBits, gmulBits, xtime_xor, ih, apply_ite xtime, xtime_zero]

theorem gmul_xor_left (a b c : Byte) : gmul (a ^^^ b) c = gmul a c ^^^ gmul b c := gmulBits_xor_left 8 a b c

theorem gmul_xtime_left (a b : Byte) : gmul (xtime a) b = xtime (gmul a b) := gmulBits_xtime_left 8 a b

@[simp] theorem gmul_zero_left (b : Byte) : gmul 0#8 b = 0#8 := by
  simpa using gmul_xor_left 0#8 0#8 b

@[simp] theorem gmul_one_left : ∀ b : Byte, gmul 1#8 b = b := by decide +kernel

/-- Every byte is a sum of `xtime` powers of 1: what holds of 0 and 1, and is kept by XOR and by `xtime`, holds of every
byte. -/
theorem byte_induction {P : Byte → Prop} (zero : P 0#8) (one : P 1#8) (xor : ∀ a b, P a → P b → P (a ^^^ b))
    (xtime : ∀ a, P a → P (xtime a)) (a : Byte) : P a := by
  have sums (n : Nat) (p b : Byte) (hp : P p) : P (gmulBits n p b) := by
    induction n generalizing p b with
    | zero => exact zero
    | succ n ih =>
      refine xor _ _ ?_ (ih _ _ (xtime p hp))
      cases b.getLsbD 0 with
      | false => exact zero
      | true => exact hp
  rw [← gmul_one_left a]
  exact sums 8 1#8 a one

theorem gmul_assoc (a b c : Byte) : gmul (gmul a b) c = gmul a (gmul b c) := by
  induction a using byte_induction with
  | zero => simp
  | one => simp
  | xor a a' ih ih' => rw [gmul_xor_left, gmul_xor_left, gmul_xor_left, ih, ih']
  | xtime a ih => rw [gmul_xtime_left, gmul_xtime_left, gmul_xtime_left, ih]

/-! ### The field inverse -/

@[simp] theorem ginv_zero : ginv 0#8 = 0#8 := by
  have hnone : ((List.range 256).map (BitVec.ofNat 8)).find? (fun b => gmul 0#8 b == 1) = none :=
    List.find?_eq_none.mpr fun b _ => by simp
  rw [ginv, hnone]
  rfl

theorem mem_allBytes (b : Byte) : b ∈ (List.range 256).map (BitVec.ofNat 8) :=
  List.mem_map.mpr ⟨b.toNat, List.mem_range.mpr b.isLt, by simp⟩

/-- The search for the inverse finds `b`: it finds some inverse on the right, and that is `b` since `b` is one on the
left. -/
theorem ginv_eq_of_gmul_eq_one {a b : Byte} (left : gmul b a = 1#8) (right : gmul a b = 1#8) : ginv a = b := by
  unfold ginv
  cases hfind : ((List.range 256).map (BitVec.ofNat 8)).find? fun c => gmul a c == 1 with
  | none =>
    have hnone := List.find?_eq_none.mp hfind b (mem_allBytes b)
    simp [right] at hnone
  | some c =>
    have found : gmul a c = 1#8 := by simpa using List.find?_some hfind
    calc c = gmul (gmul b a) c := by rw [left, gmul_one_left]
      _ = gmul b (gmul a c) := gmul_assoc b a c
      _ = gmul b (gmul a b) := by rw [found, right]
      _ = gmul (gmul b a) b := (gmul_assoc b a b).symm
      _ = b := by rw [left, gmul_one_left]

/-! ### The tables -/

/-- The inverse of the affine map `A(y)`. -/
def sboxUnaffine (z : Byte) : Byte := z.rotateLeft 1 ^^^ z.rotateLeft 3 ^^^ z.rotateLeft 6 ^^^ 0x05

theorem sboxAffine_sboxUnaffine : ∀ z : Byte, sboxAffine (sboxUnaffine z) = z := by decide +kernel

theorem gmul_sboxUnaffine_sbox :
    ∀ x : Byte, x ≠ 0#8 → gmul (sboxUnaffine (sbox x)) x = 1#8 ∧ gmul x (sboxUnaffine (sbox x)) = 1#8 := by
  decide +kernel

/-- An entry of SBOX, the affine map undone, is the inverse of its index. -/
theorem ginv_eq_sboxUnaffine_sbox (x : Byte) : ginv x = sboxUnaffine (sbox x) := by
  by_cases hx : x = 0#8
  · subst hx
    rw [ginv_zero]
    decide
  · obtain ⟨left, right⟩ := gmul_sboxUnaffine_sbox x hx
    exact ginv_eq_of_gmul_eq_one left right

theorem invSbox_sbox : ∀ x : Byte, invSbox (sbox x) = x := by decide +kernel

theorem sbox_invSbox : ∀ x : Byte, sbox (invSbox x) = x := by decide +kernel

/-- Settles O19: each SBOX entry is the affine map of the inverse it was made from, and the two tables undo each other
entry by entry. -/
theorem sboxTablesFollowTheFormula : Obligations.SboxTablesFollowTheFormula := fun x =>
  ⟨by rw [ginv_eq_sboxUnaffine_sbox, sboxAffine_sboxUnaffine], invSbox_sbox x, sbox_invSbox x⟩

end Sys2Proof.Machine
end

section
/-! # The cipher streams, block by block (41_cipher.md R141, R144 to R147) -/

namespace Sys2Proof.Machine

/-! ### Chaining -/

/-- R141 for the encrypt stream: each ciphertext block chains on the one before it, the first on the register. -/
theorem cbcEncrypt_getD (k c d : Block) (ps : List Block) {i : Nat} (hi : i < ps.length) :
    (cbcEncrypt k c ps).getD i d =
      aesE k (blockXor (ps.getD i d) ((c :: cbcEncrypt k c ps).getD i d)) := by
  induction ps generalizing c i with
  | nil => cases hi
  | cons p ps ih =>
    cases i with
    | zero => rfl
    | succ i => exact ih _ (Nat.lt_of_succ_lt_succ hi)

/-- R141 for the decrypt stream: each plaintext block is unchained by the ciphertext block before it. -/
theorem cbcDecrypt_getD (k c d : Block) (xs : List Block) {i : Nat} (hi : i < xs.length) :
    (cbcDecrypt k c xs).getD i d = blockXor (aesD k (xs.getD i d)) ((c :: xs).getD i d) := by
  induction xs generalizing c i with
  | nil => cases hi
  | cons x xs ih =>
    cases i with
    | zero => rfl
    | succ i => exact ih _ (Nat.lt_of_succ_lt_succ hi)

theorem blocksOf_getD (s : Bytes) (d : Block) {i : Nat} (hi : i < s.length / 16) :
    (blocksOf s).getD i d = blockOfBytes ((s.drop (16 * i)).take 16) := by
  simp [blocksOf, chunks16, pieces_eq_map, hi]

/-! ### The two commands -/

theorem decode_cipherEncrypt (data : Bytes) : decode ⟨0x0200, [.bytes data]⟩ = .ok (.cipherEncrypt data) := by
  simp [decode, rowOf, opcodeRows, bytesRow]

theorem decode_cipherDecrypt (data : Bytes) : decode ⟨0x0300, [.bytes data]⟩ = .ok (.cipherDecrypt data) := by
  simp [decode, rowOf, opcodeRows, bytesRow]

section
variable {s : State}

theorem execCipherEncrypt_of_not_ready (data : Bytes) (h : s.ready = false) :
    execCipherEncrypt data s = .next (faulted .notReady s) := by
  simp [execCipherEncrypt, h, State.raise_eq_faulted]

theorem execCipherEncrypt_of_not_aligned {data : Bytes} (h : s.ready = true) (hdata : data.length % 16 ≠ 0) :
    execCipherEncrypt data s = .next (faulted .notAligned s) := by
  simp [execCipherEncrypt, h, hdata, State.raise_eq_faulted]

theorem execCipherEncrypt_of_aligned {data : Bytes} (h : s.ready = true) (hdata : data.length % 16 = 0) :
    execCipherEncrypt data s = .next (returned (.bytes (s.encOutput data)) (s.encAdvance data)) := by
  simp [execCipherEncrypt, h, hdata, State.give, returned]

theorem execCipherDecrypt_of_not_ready (data : Bytes) (h : s.ready = false) :
    execCipherDecrypt data s = .next (faulted .notReady s) := by
  simp [execCipherDecrypt, h, State.raise_eq_faulted]

theorem execCipherDecrypt_of_not_aligned {data : Bytes} (h : s.ready = true) (hdata : data.length % 16 ≠ 0) :
    execCipherDecrypt data s = .next (faulted .notAligned s) := by
  simp [execCipherDecrypt, h, hdata, State.raise_eq_faulted]

theorem execCipherDecrypt_of_aligned {data : Bytes} (h : s.ready = true) (hdata : data.length % 16 = 0) :
    execCipherDecrypt data s = .next (returned (.bytes (s.decOutput data)) (s.decAdvance data)) := by
  simp [execCipherDecrypt, h, hdata, State.give, returned]

end

/-- Settles O26: the ciphertext blocks are those of the encrypt stream, which chain block by block. -/
theorem cipherEncryptIsChainedAes : Obligations.CipherEncryptIsChainedAes := by
  refine fun data s => ⟨decode_cipherEncrypt data, execCipherEncrypt_of_not_ready data,
    execCipherEncrypt_of_not_aligned, fun hready haligned => ?_⟩
  have hlength : (s.encBlocks data).length = (blocksOf data).length := cbcEncrypt_length ..
  refine ⟨s.encBlocks data, hlength.trans (blocksOf_length data), fun i hi => ?_,
    execCipherEncrypt_of_aligned hready haligned⟩
  rw [hlength] at hi
  rw [← blocksOf_getD data s.encChain (blocksOf_length data ▸ hi)]
  exact cbcEncrypt_getD s.key s.encChain s.encChain _ hi

/-- Settles O27: the input blocks make up the data, and the plaintext blocks are those of the decrypt stream. -/
theorem cipherDecryptIsChainedAes : Obligations.CipherDecryptIsChainedAes := by
  refine fun data s => ⟨decode_cipherDecrypt data, execCipherDecrypt_of_not_ready data,
    execCipherDecrypt_of_not_aligned, fun hready haligned => ?_⟩
  exact ⟨blocksOf data, cbcDecrypt s.key s.decChain (blocksOf data), bytesOf_blocksOf data haligned,
    cbcDecrypt_length .., fun i hi => cbcDecrypt_getD _ _ _ _ hi, execCipherDecrypt_of_aligned hready haligned⟩

end Sys2Proof.Machine
end

section
/-! # Keys: a successful init, a refused key, and `ready` (41_cipher.md R140, R142, R143, R148; 46_session.md R301) -/

namespace Sys2Proof.Machine

/-! ### Draws and seeding -/

theorem State.drawn_eq_drawAt (s : State) : s.drawn = drawAt s 0 := by
  obtain ⟨d, rest, hentropy, hdrawn, -⟩ | ⟨hentropy, hdrawn, -⟩ := draw_cases s <;>
    simp [drawAt, hentropy, hdrawn]

theorem State.afterDraw_eq_drawsTaken (s : State) : s.afterDraw = drawsTaken 1 s := by
  obtain ⟨d, rest, hentropy, -, hafter⟩ | ⟨hentropy, -, hafter⟩ := draw_cases s <;>
    simp [drawsTaken, hentropy, hafter]

theorem decode_cipherInit (key : Bytes) : decode ⟨0x0100, [.bytes key]⟩ = .ok (.cipherInit key) := by
  simp [decode, rowOf, opcodeRows, bytesRow]

theorem execCipherInit_of_good_key {key : Bytes} (hkey : key.length = 16) (s : State) :
    execCipherInit key s =
      .next (returned (.bytes (blockBytes (drawAt s 0))) ((drawsTaken 1 s).seed (blockOfBytes key) (drawAt s 0))) := by
  rw [execCipherInit, block16_eq_some hkey, ← State.drawn_eq_drawAt, ← State.afterDraw_eq_drawsTaken]
  rfl

theorem execCipherInit_of_bad_key {key : Bytes} (hkey : key.length ≠ 16) (s : State) :
    execCipherInit key s = .next s.badKey := by
  rw [execCipherInit, block16_eq_none hkey]

theorem execAuthBuild_of_bad_key {key : Bytes} (hkey : key.length ≠ 16) (enableFlag : Byte) (s : State) :
    execAuthBuild key enableFlag s = .next s.badKey := by
  rw [execAuthBuild, block16_eq_none hkey]

theorem State.badKey_eq (s : State) : s.badKey = { s with ready := false, result := some (.error 0x0500) } := rfl

/-- Settles O24: the key's length decides between the seeding of both streams and the refusal. -/
theorem cipherInitSeedsBothStreams : Obligations.CipherInitSeedsBothStreams := fun key s =>
  ⟨decode_cipherInit key, fun hkey => execCipherInit_of_good_key hkey s,
    fun hkey => (execCipherInit_of_bad_key hkey s).trans (congrArg _ s.badKey_eq)⟩

/-! ### Every command that would encrypt refuses until the next good key -/

theorem contentFits_of_length {content : Bytes} (hne : content ≠ []) (hle : content.length ≤ 268) :
    contentFits content = true := by
  simp [contentFits, hne, hle]

section
variable {s : State} (h : s.ready = false)
include h

theorem execFrameEncode_of_not_ready (respond : Bool) {content : Bytes} (hfits : contentFits content = true) :
    execFrameEncode respond true content s = .next (faulted .notReady s) := by
  simp [execFrameEncode, hfits, h, State.raise_eq_faulted]

theorem execSend_of_not_ready (respond : Bool) {content : Bytes} (hmode : s.config.specialChunkingMode = false)
    (hfits : contentFits content = true) (hout : s.encOut = true) :
    execSend respond content s = .next (faulted .notReady s) := by
  simp [execSend, hmode, hfits, hout, h, State.raise_eq_faulted]

theorem execFrameDecode_of_not_ready {frame : Bytes} (hsound : frameDefect frame = none)
    (hencrypted : isEncrypted (frame.getD 1 0) = true) :
    execFrameDecode frame s = .next (s.give (.corrupt .cipherNotReady)) := by
  have hdecoded : s.decodedFrame frame = .error .cipherNotReady := by
    simp only [State.decodedFrame, hsound, hencrypted, h, if_true, Bool.false_eq_true, if_false]
  have hafter : s.afterDecode frame = s := by simp [State.afterDecode, h]
  rw [execFrameDecode, hdecoded, hafter]

end

theorem exec_of_bad_key {key : Bytes} {enableFlag : Byte} {i : Instr} (hkey : key.length ≠ 16)
    (hi : i = .cipherInit key ∨ i = .authBuild key enableFlag) (s : State) : exec i s = .next s.badKey := by
  obtain rfl | rfl := hi
  · exact execCipherInit_of_bad_key hkey s
  · exact execAuthBuild_of_bad_key hkey enableFlag s

/-- Settles O25: both commands end in the same refusal, and with `ready` false each later command stops at its check of
it. -/
theorem badKeyFailsClosed : Obligations.BadKeyFailsClosed := by
  intro key enableFlag i s t hkey hi hexec
  obtain rfl : s.badKey = t := Host.Outcome.next.inj ((exec_of_bad_key hkey hi s).symm.trans hexec)
  have hready : s.badKey.ready = false := s.badKey_ready
  refine ⟨s.badKey_eq, fun data => execCipherEncrypt_of_not_ready data hready,
    fun r content hne hle => execFrameEncode_of_not_ready hready r (contentFits_of_length hne hle),
    fun r content hmode hne hle hout =>
      execSend_of_not_ready hready r hmode (contentFits_of_length hne hle) hout, ?_⟩
  rintro frame n rfl hmin hmax hlength htag hencrypted
  exact execFrameDecode_of_not_ready hready ((frameDefect_eq_none frame).mpr ⟨htag, hmin, hmax, hlength⟩) hencrypted

/-! ### What leaves `ready` true and what leaves it false -/

@[simp] theorem State.authBuilt_ready (k : Block) (s : State) : (s.authBuilt k).ready = true := by
  simp [State.authBuilt, State.authChallenged, State.authSeeded]

theorem ready_of_execCipherInit {key : Bytes} {s t : State} (h : execCipherInit key s = .next t) :
    t.ready = decide (key.length = 16) := by
  by_cases hkey : key.length = 16
  · rw [execCipherInit_of_good_key hkey] at h
    cases h
    exact (decide_eq_true hkey).symm
  · rw [execCipherInit_of_bad_key hkey] at h
    cases h
    exact (decide_eq_false hkey).symm

theorem ready_of_execAuthBuild {key : Bytes} {enableFlag : Byte} {s t : State}
    (h : execAuthBuild key enableFlag s = .next t) : t.ready = decide (key.length = 16) := by
  by_cases hkey : key.length = 16
  · rw [execAuthBuild, block16_eq_some hkey] at h
    cases h
    simp [hkey]
  · rw [execAuthBuild_of_bad_key hkey] at h
    cases h
    exact (decide_eq_false hkey).symm

theorem ready_of_execSessionReset {s t : State} (h : execSessionReset s = .next t) : t.ready = false := by
  cases h
  rfl

theorem decode_cipherIsReady : decode ⟨0x0400, []⟩ = .ok .cipherIsReady := by decide

/-- Settles O29: the command reads `ready`, which the key's length decides at an init and SESSION_RESET clears. -/
theorem cipherIsReadyReportsReady : Obligations.CipherIsReadyReportsReady :=
  ⟨decode_cipherIsReady, fun _ => rfl, fun _ => rfl, fun _ _ _ => ready_of_execCipherInit,
    fun _ _ _ _ => ready_of_execAuthBuild, fun _ _ => ready_of_execSessionReset⟩

end Sys2Proof.Machine
end

section
/-! # The CRC32 commands (42_crc.md R171 to R174)

CRC_VALIDATE compares words and its rule compares the first four bytes, so the one fact needed is that `be32` and
`rdBe32` undo each other on four bytes. -/

namespace Sys2Proof

/-- A word with a byte-string row decodes to that row's instruction of the byte string. -/
theorem decode_of_bytesRow {w : Half} {mnemonic : String} {pattern mask : Half} {make : Half → Bytes → Instr}
    (hrow : rowOf w = some (bytesRow mnemonic pattern mask make)) (data : Bytes) :
    decode ⟨w, [.bytes data]⟩ = .ok (make w data) := by
  simp only [decode, hrow]
  rfl

theorem decode_crc32 (data : Bytes) : decode ⟨0x1000, [.bytes data]⟩ = .ok (.crc32 data) :=
  decode_of_bytesRow (make := fun _ => .crc32) rfl data

theorem decode_crcStamp (region : Bytes) : decode ⟨0x1100, [.bytes region]⟩ = .ok (.crcStamp region) :=
  decode_of_bytesRow (make := fun _ => .crcStamp) rfl region

theorem decode_crcValidate (region : Bytes) : decode ⟨0x1200, [.bytes region]⟩ = .ok (.crcValidate region) :=
  decode_of_bytesRow (make := fun _ => .crcValidate) rfl region

end Sys2Proof

namespace Sys2Proof.Machine

/-! ### Big-endian words -/

theorem extractLsb'_append_bytes (v : Word) :
    v.extractLsb' 24 8 ++ v.extractLsb' 16 8 ++ v.extractLsb' 8 8 ++ v.extractLsb' 0 8 = v := by
  have upper16 : v.extractLsb' 24 8 ++ v.extractLsb' 16 8 = v.extractLsb' 16 16 :=
    BitVec.extractLsb'_append_extractLsb'_eq_extractLsb' rfl
  have upper24 : v.extractLsb' 16 16 ++ v.extractLsb' 8 8 = v.extractLsb' 8 24 :=
    BitVec.extractLsb'_append_extractLsb'_eq_extractLsb' rfl
  have all32 : v.extractLsb' 8 24 ++ v.extractLsb' 0 8 = v.extractLsb' 0 32 :=
    BitVec.extractLsb'_append_extractLsb'_eq_extractLsb' rfl
  rw [upper16, upper24, all32, BitVec.extractLsb'_eq_self]

theorem rdBe32_be32_append (v : Word) (s : Bytes) : rdBe32 (be32 v ++ s) = v := extractLsb'_append_bytes v

theorem be32_append (a b c d : Byte) : be32 (a ++ b ++ c ++ d) = [a, b, c, d] := by
  have first : (a ++ b ++ c ++ d).extractLsb' 24 8 = a :=
    (BitVec.extractLsb'_append_eq_of_le (by decide)).trans <|
      (BitVec.extractLsb'_append_eq_of_le (by decide)).trans BitVec.extractLsb'_append_eq_left
  have second : (a ++ b ++ c ++ d).extractLsb' 16 8 = b :=
    (BitVec.extractLsb'_append_eq_of_le (by decide)).trans <|
      (BitVec.extractLsb'_append_eq_of_le (by decide)).trans BitVec.extractLsb'_append_eq_right
  have third : (a ++ b ++ c ++ d).extractLsb' 8 8 = c :=
    (BitVec.extractLsb'_append_eq_of_le (by decide)).trans BitVec.extractLsb'_append_eq_right
  have fourth : (a ++ b ++ c ++ d).extractLsb' 0 8 = d := BitVec.extractLsb'_append_eq_right
  simp only [be32, first, second, third, fourth]

theorem be32_rdBe32 {s : Bytes} (h : 4 ≤ s.length) : be32 (rdBe32 s) = s.take 4 := by
  obtain ⟨a, b, c, d, htake⟩ := List.length_eq_four.mp (List.length_take_of_le h)
  rw [htake, ← List.take_append_drop 4 s, htake]
  exact be32_append a b c d

theorem rdBe32_eq_iff {s : Bytes} (h : 4 ≤ s.length) (v : Word) : rdBe32 s = v ↔ s.take 4 = be32 v := by
  constructor
  · rintro rfl
    exact (be32_rdBe32 h).symm
  · intro htake
    rw [← List.take_append_drop 4 s, htake]
    exact rdBe32_be32_append v _

/-- Compared as words or as bytes, the check of R174 is the same. -/
theorem crcValid_eq {region : Bytes} (h : 4 ≤ region.length) :
    crcValid region = decide (region.take 4 = be32 (crc32 (region.drop 4))) := by
  rw [crcValid, beq_eq_decide]
  exact decide_eq_decide.mpr (rdBe32_eq_iff h _)

/-! ### The three commands -/

/-- The reference values of R171. -/
theorem crc32_reference_values :
    crc32 [0x31, 0x32, 0x33, 0x34, 0x35, 0x36, 0x37, 0x38, 0x39] = 0xCBF43926 ∧ crc32 [] = 0x00000000 ∧
      crc32 (zeros 12) = 0x7BD5C66F ∧ crc32 ([0x02, 0x01] ++ zeros 10) = 0x56608730 := by
  decide +kernel

theorem execCrc32_eq (data : Bytes) (s : State) :
    execCrc32 data s = .next (returned (.word (crc32 data)) s) := rfl

section
variable {region : Bytes}

theorem execCrcStamp_of_short (h : region.length < 4) (s : State) :
    execCrcStamp region s = .next (faulted .badOperand s) := by
  rw [execCrcStamp, if_pos h, State.raise_eq_faulted]

theorem execCrcValidate_of_short (h : region.length < 4) (s : State) :
    execCrcValidate region s = .next (faulted .badOperand s) := by
  rw [execCrcValidate, if_pos h, State.raise_eq_faulted]

theorem execCrcStamp_of_long (h : 4 ≤ region.length) (s : State) :
    execCrcStamp region s =
      .next (returned (.bytes (be32 (crc32 (region.drop 4)) ++ region.drop 4)) s) :=
  if_neg h.not_gt

theorem execCrcValidate_of_long (h : 4 ≤ region.length) (s : State) :
    execCrcValidate region s =
      .next (returned (.byte (if region.take 4 = be32 (crc32 (region.drop 4)) then 0x01 else 0x00)) s) := by
  rw [execCrcValidate, if_neg h.not_gt, crcValid_eq h]
  simp only [boolByte, decide_eq_true_eq]
  rfl

end

/-- Settles O30: the command's equation, and the values R171 gives for the function. -/
theorem crc32CommandReturnsCrc : Obligations.Crc32CommandReturnsCrc :=
  ⟨fun data s => ⟨decode_crc32 data, execCrc32_eq data s⟩, crc32_reference_values⟩

/-- Settles O31: the region's length decides between the fault and the answer of each command. -/
theorem crcStampAndValidate : Obligations.CrcStampAndValidate := fun region s =>
  ⟨decode_crcStamp region, decode_crcValidate region,
    fun hshort => ⟨execCrcStamp_of_short hshort s, execCrcValidate_of_short hshort s⟩,
    fun hlong => ⟨execCrcStamp_of_long hlong s, execCrcValidate_of_long hlong s⟩⟩

end Sys2Proof.Machine
end

section
/-! # PACKET_BUILD and FRAME_DECODE (43_frame_codec.md R200, R203, R205)

FRAME_DECODE ends in one of three ways: a structural check fails, the cipher an encrypted frame needs is not ready, or the
body reaches the CRC check. Each way has one equation for the command, with the state it leaves. -/

namespace Sys2Proof

/-! ### The command words -/

theorem decode_packetBuild (cmd : Byte) (data : Bytes) :
    decode ⟨0x2000, [.byte cmd, .bytes data]⟩ = .ok (.packetBuild cmd none data) := by
  simp [decode, rowOf, opcodeRows, bytesRow, bareRow, bitX]

theorem decode_packetBuild_param (cmd param : Byte) (data : Bytes) :
    decode ⟨0x2001, [.byte cmd, .byte param, .bytes data]⟩ = .ok (.packetBuild cmd (some param) data) := by
  simp [decode, rowOf, opcodeRows, bytesRow, bareRow, bitX]

theorem decode_frameDecode (frame : Bytes) : decode ⟨0x2200, [.bytes frame]⟩ = .ok (.frameDecode frame) :=
  decode_of_bytesRow (make := fun _ => .frameDecode) rfl frame

end Sys2Proof

namespace Sys2Proof.Machine

/-! ### PACKET_BUILD -/

theorem contentOf_length (cmd : Byte) (param : Option Byte) (data : Bytes) :
    (contentOf cmd param data).length = data.length + (param.toList.length + 1) := by
  simp only [contentOf, List.length_cons, List.length_append]
  omega

/-- R200 with the limit read as one on the data: 268 bytes less the command byte and the param byte, if there is one. -/
theorem execPacketBuild_eq {param : Option Byte} {limit : Nat} (hlimit : limit + (param.toList.length + 1) = 268)
    (cmd : Byte) (data : Bytes) (s : State) :
    execPacketBuild cmd param data s =
      .next (if data.length > limit then faulted .contentLength s
        else returned (.bytes (contentOf cmd param data)) s) := by
  have hover : (contentOf cmd param data).length > maxContent ↔ data.length > limit := by
    rw [contentOf_length, maxContent]
    omega
  simp only [execPacketBuild, hover, State.raise_eq_faulted]
  exact (apply_ite Host.Outcome.next ..).symm

/-- Settles O34: the limit on the content leaves 267 bytes for the data, and one less with a param byte. -/
theorem packetBuildLaysOutContent : Obligations.PacketBuildLaysOutContent := fun cmd param data s =>
  ⟨decode_packetBuild cmd data, decode_packetBuild_param cmd param data,
    execPacketBuild_eq (param := none) rfl cmd data s, execPacketBuild_eq (param := some param) rfl cmd data s⟩

/-! ### A body of whole sub-packets -/

theorem State.decOutput_length (body : Bytes) (s : State) : (s.decOutput body).length = 16 * (body.length / 16) := by
  rw [State.decOutput, bytesOf_length, cbcDecrypt_length, blocksOf_length]

/-- The decrypt chain after a body of `n` sub-packets holds the last of them (41_cipher.md R145). -/
theorem lastBlock_blocksOf {body : Bytes} {n : Nat} (hlength : body.length = 16 * n) (hn : n ≠ 0) (c : Block) :
    lastBlock c (blocksOf body) = blockOfBytes (body.drop (16 * (n - 1))) := by
  have hcount : (blocksOf body).length = n := by rw [blocksOf_length, hlength]; omega
  have hwhole : (body.drop (16 * (n - 1))).length ≤ 16 := by rw [List.length_drop]; omega
  calc lastBlock c (blocksOf body)
      = (blocksOf body).getD (n - 1) c := by
        rw [lastBlock, List.getLastD_eq_getLast?, List.getLast?_eq_getElem?, hcount, List.getD_eq_getElem?_getD]
    _ = blockOfBytes ((body.drop (16 * (n - 1))).take 16) := blocksOf_getD body c (by omega)
    _ = blockOfBytes (body.drop (16 * (n - 1))) := by rw [List.take_of_length_le hwhole]

/-! ### FRAME_DECODE, one equation for each way it ends -/

/-- The body FRAME_DECODE checks the CRC of: decrypted when the frame is flagged encrypted (43_frame_codec.md R203). -/
def State.plainOf (frame : Bytes) (s : State) : Bytes :=
  if isEncrypted (frame.getD 1 0) then s.decOutput (frame.drop hdrLen) else frame.drop hdrLen

theorem State.plainOf_length {frame : Bytes} {n : Nat} (hlength : (frame.drop hdrLen).length = 16 * n) (s : State) :
    (s.plainOf frame).length = 16 * n := by
  unfold State.plainOf
  split
  · rw [State.decOutput_length, hlength]
    omega
  · exact hlength

theorem State.decodedFrame_of_sound {frame : Bytes} {s : State} (hsound : frameDefect frame = none)
    (hready : isEncrypted (frame.getD 1 0) = true → s.ready = true) :
    s.decodedFrame frame = checkBody (s.plainOf frame) := by
  simp only [State.decodedFrame, State.plainOf, hsound]
  by_cases hencrypted : isEncrypted (frame.getD 1 0) = true
  · simp only [hencrypted, hready hencrypted, if_true]
  · simp only [hencrypted, if_false, Bool.false_eq_true]

theorem State.afterDecode_of_sound {frame : Bytes} {s : State} {n : Nat} (hsound : frameDefect frame = none)
    (hready : isEncrypted (frame.getD 1 0) = true → s.ready = true)
    (hlength : (frame.drop hdrLen).length = 16 * n) (hn : n ≠ 0) :
    s.afterDecode frame =
      { s with decChain :=
          if isEncrypted (frame.getD 1 0) then blockOfBytes ((frame.drop hdrLen).drop (16 * (n - 1)))
          else s.decChain } := by
  have hmoves : ((frameDefect frame).isNone && isEncrypted (frame.getD 1 0) && s.ready) =
      isEncrypted (frame.getD 1 0) := by
    simpa [hsound] using hready
  rw [afterDecode_eq, hmoves, lastBlock_blocksOf hlength hn]

theorem execFrameDecode_of_defect {frame : Bytes} {r : CorruptReason} (hdefect : frameDefect frame = some r)
    (s : State) : execFrameDecode frame s = .next { s with result := some (.corrupt r) } := by
  have hdecoded : s.decodedFrame frame = .error r := by simp only [State.decodedFrame, hdefect]
  have hafter : s.afterDecode frame = s := by simp [State.afterDecode, hdefect]
  rw [execFrameDecode, hdecoded, hafter]
  rfl

/-- Past the structural checks and the check of `ready`, the result is the CRC's and the chain moves either way (R205). -/
theorem execFrameDecode_of_sound {frame : Bytes} {s : State} {n : Nat} (hsound : frameDefect frame = none)
    (hready : isEncrypted (frame.getD 1 0) = true → s.ready = true)
    (hlength : (frame.drop hdrLen).length = 16 * n) (hn : n ≠ 0) :
    execFrameDecode frame s = .next
      { s with
        decChain :=
          if isEncrypted (frame.getD 1 0) then blockOfBytes ((frame.drop hdrLen).drop (16 * (n - 1))) else s.decChain
        result := some
          (if (s.plainOf frame).take 4 = be32 (crc32 ((s.plainOf frame).drop 4))
            then .ok (.bytes ((s.plainOf frame).drop 4)) else .corrupt .crcMismatch) } := by
  have hcrc : 4 ≤ (s.plainOf frame).length := by rw [State.plainOf_length hlength]; omega
  rw [execFrameDecode, State.decodedFrame_of_sound hsound hready, State.afterDecode_of_sound hsound hready hlength hn,
    checkBody, crcValid_eq hcrc]
  by_cases hmatch : (s.plainOf frame).take 4 = be32 (crc32 ((s.plainOf frame).drop 4))
  · rw [if_pos (decide_eq_true hmatch), if_pos hmatch]
    rfl
  · rw [if_neg (by simpa using hmatch), if_neg hmatch]
    rfl

/-- Settles O38: the first check that fails decides the result; past all of them, the CRC does. -/
theorem frameDecodeChecksInOrder : Obligations.FrameDecodeChecksInOrder := by
  rintro frame s n body plain rfl rfl rfl
  refine ⟨decode_frameDecode frame, ?_⟩
  by_cases hshort : frame.length < 2
  · rw [if_pos hshort]
    exact execFrameDecode_of_defect (if_pos hshort) s
  by_cases htag : frame.getD 0 0 ≠ 0x55
  · rw [if_neg hshort, if_pos htag]
    exact execFrameDecode_of_defect ((if_neg hshort).trans (if_pos htag)) s
  by_cases hcount : (frame.getD 1 0 &&& 0x3F).toNat = 0 ∨ (frame.getD 1 0 &&& 0x3F).toNat > 17
  · rw [if_neg hshort, if_neg htag, if_pos hcount]
    exact execFrameDecode_of_defect ((if_neg hshort).trans ((if_neg htag).trans (if_pos hcount))) s
  by_cases hlength : frame.length ≠ 2 + 16 * (frame.getD 1 0 &&& 0x3F).toNat
  · rw [if_neg hshort, if_neg htag, if_neg hcount, if_pos hlength]
    exact execFrameDecode_of_defect
      ((if_neg hshort).trans ((if_neg htag).trans ((if_neg hcount).trans (if_pos hlength)))) s
  have hsound : frameDefect frame = none :=
    (if_neg hshort).trans ((if_neg htag).trans ((if_neg hcount).trans (if_neg hlength)))
  rw [if_neg hshort, if_neg htag, if_neg hcount, if_neg hlength]
  by_cases hnotReady : (frame.getD 1 0).getLsbD 6 = true ∧ s.ready = false
  · rw [if_pos hnotReady]
    obtain ⟨hencrypted, hunready⟩ := hnotReady
    exact execFrameDecode_of_not_ready hunready hsound hencrypted
  · rw [if_neg hnotReady]
    have hready : isEncrypted (frame.getD 1 0) = true → s.ready = true := by simpa [isEncrypted] using hnotReady
    have hbody : (frame.drop hdrLen).length = 16 * (frame.getD 1 0 &&& 0x3F).toNat := by
      rw [List.length_drop, not_not.mp hlength, hdrLen, Nat.add_sub_cancel_left]
    exact execFrameDecode_of_sound hsound hready hbody fun hzero => hcount (.inl hzero)

end Sys2Proof.Machine
end

section
/-! # RX_BYTE, transition by transition (44_reassembler.md R231 to R236)

Each part of `RxStep` gets one equation that writes its result as a record update: the arrival, `WdOther`, `WdMarker`,
and the step of each reassembler state. RX_BYTE's equation is the one its state picks after the arrival. -/

namespace Sys2Proof

theorem decode_rxByte (b : Byte) (w : BitVec 64) :
    decode ⟨0x3000, [.byte b, .time w]⟩ = .ok (.rxByte b w.toNat) := by
  simp [decode, rowOf, opcodeRows, bytesRow, bareRow]

end Sys2Proof

namespace Sys2Proof.Machine

/-! ### Arrival -/

theorem isStale_eq_any (last : Option Nat) (t : Nat) :
    isStale last t = last.any fun l => decide (t > l + 3000) := by
  cases last <;> rfl

theorem arrive_eq (t : Nat) (s : State) :
    arrive t s =
      { s with
        lastByteTime := some t
        rxState := if s.lastByteTime.any (fun l => decide (t > l + 3000)) then .awaitTag else s.rxState } := by
  rw [← isStale_eq_any]
  rfl

/-! ### The watchdog counter -/

theorem watchdogCode_eq : watchdogCode = 0x0200 := by decide

theorem wdOther_eq_countAfterOther (s : State) : s.wdOther = { s with wdCount := countAfterOther s } := wdOther_eq s

/-- Arriving writes nothing that `WdOther` reads. -/
theorem countAfterOther_arrive (t : Nat) (s : State) : countAfterOther (arrive t s) = countAfterOther s := rfl

/-- R233: the event fires on the marker that would take the count past 1024. -/
theorem wdMarker_eq (s : State) :
    s.wdMarker =
      if s.wdCount + 1 > 1024 then { s with wdCount := 0, events := s.events ++ [.error 0x0200] }
      else { s with wdCount := s.wdCount + 1 } := by
  obtain ⟨hbelow, h⟩ | ⟨hover, h⟩ := wdMarker_cases s
  · rw [h, if_neg (Nat.not_lt.mpr hbelow)]
  · rw [h, if_pos hover, watchdogCode_eq]

/-! ### The step of each state -/

theorem tagStep_eq (b : Byte) (s : State) :
    tagStep b s =
      if b = 0x55 then { s with rxState := .awaitLength, wdCount := countAfterOther s }
      else if b = 0xAF then
        if s.wdCount + 1 > 1024 then { s with wdCount := 0, events := s.events ++ [.error 0x0200] }
        else { s with wdCount := s.wdCount + 1 }
      else { s with wdCount := countAfterOther s } := by
  simp only [tagStep, wdMarker_eq, wdOther_eq_countAfterOther]
  rfl

/-- The fresh buffer holds the tag, the length byte and zeros for the sub-packets (44_reassembler.md R232). -/
theorem zeros_set_header (n : Nat) (tag b : Byte) : ((zeros (n + 2)).set 0 tag).set 1 b = tag :: b :: zeros n := rfl

theorem lengthStep_eq (b : Byte) (s : State) :
    lengthStep b s =
      { s with
        rxTarget := (b &&& 0x3F).toNat * 16 + 2
        rxBuf := 0x55 :: b :: zeros ((b &&& 0x3F).toNat * 16)
        rxPos := 2, rxState := .awaitData, wdCount := countAfterOther s } := by
  rw [lengthStep, targetLength, zeros_set_header, wdOther_eq_countAfterOther]
  rfl

theorem storeByte_eq (b : Byte) (s : State) :
    storeByte b s =
      { s with rxBuf := s.rxBuf.set s.rxPos b, rxPos := s.rxPos + 1, wdCount := countAfterOther s } := by
  rw [storeByte, wdOther_eq_countAfterOther]
  rfl

theorem dataStep_eq (b : Byte) (s : State) :
    dataStep b s =
      if s.rxPos ≥ s.rxTarget then { s with rxState := .awaitTag, wdCount := countAfterOther s }
      else if s.rxPos + 1 = s.rxTarget then
        State.receiveFrame (s.rxBuf.set s.rxPos b)
          { s with
            rxBuf := s.rxBuf.set s.rxPos b, rxPos := s.rxPos + 1, rxState := .awaitTag
            wdCount := countAfterOther s }
      else { s with rxBuf := s.rxBuf.set s.rxPos b, rxPos := s.rxPos + 1, wdCount := countAfterOther s } := by
  rw [dataStep, storeByte_eq, wdOther_eq_countAfterOther]
  rfl

/-! ### The command -/

theorem exec_rxByte (b : Byte) (t : Nat) (s : State) :
    exec (.rxByte b t) s = .next (returned (.bytes []) (rxStep b t s)) := rfl

/-- Settles O40: the state after the arrival picks the transition, and each has its equation. -/
theorem rxByteTransitions : Obligations.RxByteTransitions := by
  intro b t s s0 hs0
  obtain rfl : s0 = arrive t s := hs0.trans (arrive_eq t s).symm
  refine ⟨decode_rxByte b, (exec_rxByte b t s).trans (congrArg (Host.Outcome.next ∘ returned (.bytes [])) ?_)⟩
  obtain ⟨hstate, hstep⟩ | ⟨hstate, hstep⟩ | ⟨hstate, hstep⟩ := rxStep_cases b t s
  · rw [hstep, tagStep_eq, countAfterOther_arrive, hstate]
    rfl
  · rw [hstep, lengthStep_eq, countAfterOther_arrive, hstate]
  · rw [hstep, dataStep_eq, countAfterOther_arrive, hstate]
    rfl

end Sys2Proof.Machine
end

section
/-! # BLE_NOTIFY against RX_BYTE (45_chunker.md R270; 30_encoding.md R98)

RX_BYTE puts `OK([])` on the result port after each byte, BLE_NOTIFY once at the end. No part of `RxStep` reads or writes
that port, so each commutes with `returned`, and a notification is RX_BYTE on its first byte and then the rest of it. -/

namespace Sys2Proof

theorem decode_bleNotify (value : Bytes) (w : BitVec 64) :
    decode ⟨0x4200, [.bytes value, .time w]⟩ = .ok (.bleNotify value w.toNat) := by
  simp [decode, rowOf, opcodeRows, bytesRow, bareRow]

end Sys2Proof

namespace Sys2Proof.Machine

/-! ### The reassembler and the result port -/

section
variable (v : Value) (s : State)

@[simp] theorem returned_returned (w : Value) : returned v (returned w s) = returned v s := rfl

@[simp] theorem arrive_returned (t : Nat) : arrive t (returned v s) = returned v (arrive t s) := rfl

theorem afterDecode_returned (frame : Bytes) :
    (returned v s).afterDecode frame = returned v (s.afterDecode frame) := by
  rw [afterDecode_eq, afterDecode_eq]
  rfl

theorem receiveFrame_returned (frame : Bytes) :
    (returned v s).receiveFrame frame = returned v (s.receiveFrame frame) := by
  have hdecoded : (returned v s).decodedFrame frame = s.decodedFrame frame := rfl
  simp only [State.receiveFrame, hdecoded, afterDecode_returned]
  cases s.decodedFrame frame with
  | ok p => rfl
  | error r => rfl

theorem tagStep_returned (b : Byte) : tagStep b (returned v s) = returned v (tagStep b s) := by
  simp only [tagStep_eq, apply_ite (returned v)]
  rfl

theorem lengthStep_returned (b : Byte) : lengthStep b (returned v s) = returned v (lengthStep b s) := by
  rw [lengthStep_eq, lengthStep_eq]
  rfl

theorem dataStep_returned (b : Byte) : dataStep b (returned v s) = returned v (dataStep b s) := by
  simp only [dataStep_eq, apply_ite (returned v), ← receiveFrame_returned]
  rfl

theorem rxStep_returned (b : Byte) (t : Nat) : rxStep b t (returned v s) = returned v (rxStep b t s) := by
  have hstate : (returned v (arrive t s)).rxState = (arrive t s).rxState := rfl
  simp only [rxStep, arrive_returned, hstate]
  cases (arrive t s).rxState with
  | awaitTag => exact tagStep_returned v _ b
  | awaitLength => exact lengthStep_returned v _ b
  | awaitData => exact dataStep_returned v _ b

theorem rxSteps_returned (value : Bytes) (t : Nat) :
    rxSteps value t (returned v s) = returned v (rxSteps value t s) := by
  induction value generalizing s with
  | nil => rfl
  | cons b value ih => rw [rxSteps_cons, rxSteps_cons, rxStep_returned, ih]

end

/-! ### The command -/

theorem exec_bleNotify (value : Bytes) (t : Nat) (s : State) :
    exec (.bleNotify value t) s = .next (returned (.bytes []) (rxSteps value t s)) := rfl

/-- R270: RX_BYTE on the first byte, then BLE_NOTIFY of the others. -/
theorem exec_bleNotify_cons (b : Byte) (value : Bytes) (t : Nat) (s : State) :
    exec (.bleNotify (b :: value) t) s = andThen (exec (.rxByte b t) s) (exec (.bleNotify value t)) := by
  simp only [exec_rxByte, andThen, exec_bleNotify, rxSteps_cons, rxSteps_returned, returned_returned]

theorem pseudoRxBytes_cons (b : Byte) (value : Bytes) (t : Nat) (s : State) :
    pseudoRxBytes (b :: value) t s = andThen (exec (.rxByte b t) s) (pseudoRxBytes value t) := rfl

/-- The empty expansion of RX_BYTES leaves the result port alone, where BLE_NOTIFY writes it: hence at least one byte. -/
theorem pseudoRxBytes_cons_eq_bleNotify (b : Byte) (value : Bytes) (t : Nat) (s : State) :
    pseudoRxBytes (b :: value) t s = exec (.bleNotify (b :: value) t) s := by
  induction value generalizing b s with
  | nil => rfl
  | cons c value ih =>
    calc pseudoRxBytes (b :: c :: value) t s
        = andThen (exec (.rxByte b t) s) (pseudoRxBytes (c :: value) t) := pseudoRxBytes_cons ..
      _ = andThen (exec (.rxByte b t) s) (exec (.bleNotify (c :: value) t)) := by rw [funext (ih c)]
      _ = exec (.bleNotify (b :: c :: value) t) s := (exec_bleNotify_cons ..).symm

/-- Settles O42: by the law of the first byte, and for RX_BYTES by induction with it. -/
theorem bleNotifyIsRxByteInOrder : Obligations.BleNotifyIsRxByteInOrder := by
  refine ⟨decode_bleNotify, fun value t s => ⟨_, exec_bleNotify value t s, rfl⟩, exec_bleNotify [], ?_, ?_⟩
  · intro b value t s s' u hfirst hrest
    rw [exec_bleNotify_cons, hfirst]
    exact hrest
  · intro value t s hne
    obtain ⟨b, rest, rfl⟩ := List.exists_cons_of_ne_nil hne
    exact pseudoRxBytes_cons_eq_bleNotify b rest t s

end Sys2Proof.Machine
end

section
/-! # TX_WRITE_DONE (45_chunker.md R265, R266) -/

namespace Sys2Proof.Machine

section
variable {us : List Bytes} {s : State}

theorem queuedAndIssued_of_idle (h : s.inFlight = true ∨ s.txQueue ++ us = []) :
    queuedAndIssued us s = s.enqueue us := by
  unfold queuedAndIssued
  split
  next hfree hunits => simp [hfree, hunits] at h
  next => rfl

theorem queuedAndIssued_of_free {u : Bytes} {rest : List Bytes} (hfree : s.inFlight = false)
    (hunits : s.txQueue ++ us = u :: rest) :
    queuedAndIssued us s = { s with txQueue := rest, inFlight := true, events := s.events ++ [.txUnit u] } := by
  simp only [queuedAndIssued, hfree, hunits]

end

/-- R265: queueing and then issuing hands over the head of the lengthened queue when the credit is free. -/
theorem issue_enqueue (us : List Bytes) (s : State) : (s.enqueue us).issue = queuedAndIssued us s := by
  obtain ⟨hidle, hissue⟩ | ⟨u, rest, hfree, hunits, hissue⟩ := issue_cases (s.enqueue us)
  · rw [hissue, queuedAndIssued_of_idle hidle]
  · rw [hissue, queuedAndIssued_of_free (s := s) hfree hunits]
    rfl

theorem enqueue_nil (s : State) : s.enqueue [] = s := by
  rw [State.enqueue, List.append_nil]

theorem writeFailedCode_eq : writeFailedCode = 0x0100 := by decide

theorem execTxWriteDone_of_free {s : State} (hfree : s.inFlight = false) (success : Bool) :
    execTxWriteDone success s = .next (faulted .spuriousCompletion s) := by
  rw [execTxWriteDone, hfree, ← State.raise_eq_faulted]
  rfl

theorem execTxWriteDone_success {s : State} (hflight : s.inFlight = true) :
    execTxWriteDone true s =
      .next (returned (.bytes []) (queuedAndIssued [] { s with inFlight := false })) := by
  rw [execTxWriteDone, hflight, ← issue_enqueue, enqueue_nil]
  rfl

theorem execTxWriteDone_failure {s : State} (hflight : s.inFlight = true) :
    execTxWriteDone false s = .next (returned (.bytes [])
      { s with inFlight := false, txQueue := [], hdrBuf := none, events := s.events ++ [.error 0x0100] }) := by
  rw [execTxWriteDone, hflight, writeFailedCode_eq]
  rfl

/-- Settles O50: the credit and the outcome of the write pick the equation. -/
theorem txWriteDoneReleasesCredit : Obligations.TxWriteDoneReleasesCredit :=
  ⟨by decide, by decide, fun _ hfree ok => execTxWriteDone_of_free hfree ok,
    fun _ hflight => ⟨execTxWriteDone_success hflight, execTxWriteDone_failure hflight⟩⟩

end Sys2Proof.Machine
end

section
/-! # SESSION_RESET and RX_FRAME (46_session.md R309, R312) -/

namespace Sys2Proof

theorem decode_sessionReset : decode ⟨0x5300, []⟩ = .ok .sessionReset := by decide

theorem decode_rxFrame (frame : Bytes) : decode ⟨0x5400, [.bytes frame]⟩ = .ok (.rxFrame frame) :=
  decode_of_bytesRow (make := fun _ => .rxFrame) rfl frame

end Sys2Proof

namespace Sys2Proof.Machine

theorem exec_sessionReset (s : State) : exec .sessionReset s = .next (returned (.bytes []) s.sessionCleared) := rfl

/-- Settles O58: the assignments of `sessionCleared`, then the result port. -/
theorem sessionResetClearsSession : Obligations.SessionResetClearsSession :=
  ⟨decode_sessionReset, exec_sessionReset⟩

theorem exec_rxFrame (frame : Bytes) (s : State) :
    exec (.rxFrame frame) s = .next (returned (.bytes []) (s.receiveFrame frame)) := rfl

/-- What a decoded frame puts on the result port of FRAME_DECODE. -/
def decodeResult : Except CorruptReason Bytes → Result
  | .ok p => .ok (.bytes p)
  | .error r => .corrupt r

theorem decodeResult_eq_ok_iff (d : Except CorruptReason Bytes) (p : Bytes) :
    decodeResult d = .ok (.bytes p) ↔ d = .ok p := by
  cases d <;> simp [decodeResult]

theorem decodeResult_eq_corrupt_iff (d : Except CorruptReason Bytes) (r : CorruptReason) :
    decodeResult d = .corrupt r ↔ d = .error r := by
  cases d <;> simp [decodeResult]

theorem exec_frameDecode (frame : Bytes) (s : State) :
    exec (.frameDecode frame) s = .next ((s.afterDecode frame).give (decodeResult (s.decodedFrame frame))) := by
  change execFrameDecode frame s = _
  unfold execFrameDecode
  cases s.decodedFrame frame with
  | ok p => rfl
  | error r => rfl

/-- Decoding writes the decrypt chain alone (43_frame_codec.md R205). -/
theorem afterDecode_eq_with_decChain (frame : Bytes) (s : State) :
    s.afterDecode frame = { s with decChain := (s.afterDecode frame).decChain } := by
  rw [afterDecode_eq]

theorem exec_rxFrame_of_ok {frame p : Bytes} {s : State} (h : s.decodedFrame frame = .ok p) :
    exec (.rxFrame frame) s = .next
      { s with
        decChain := (s.afterDecode frame).decChain, events := s.events ++ [.data p]
        result := some (.ok (.bytes [])) } := by
  rw [exec_rxFrame, State.receiveFrame, h]
  dsimp only
  rw [afterDecode_eq_with_decChain]
  rfl

theorem exec_rxFrame_of_error {frame : Bytes} {r : CorruptReason} {s : State} (h : s.decodedFrame frame = .error r) :
    exec (.rxFrame frame) s = .next
      { s with decChain := (s.afterDecode frame).decChain, result := some (.ok (.bytes [])) } := by
  rw [exec_rxFrame, State.receiveFrame, h]
  dsimp only
  rw [afterDecode_eq_with_decChain]
  rfl

/-- Settles O41: both commands branch on the same decoded frame and leave the same decrypt chain. -/
theorem rxFrameEmitsDecodedPayload : Obligations.RxFrameEmitsDecodedPayload := by
  intro frame s
  refine ⟨decode_rxFrame frame, exec_rxFrame frame s, ⟨_, exec_frameDecode frame s, ?_⟩, fun t hexec => ?_⟩
  · rw [State.give_result]
    cases s.decodedFrame frame with
    | ok p => exact .inl ⟨p, rfl⟩
    | error r => exact .inr ⟨r, rfl⟩
  · obtain rfl := Host.Outcome.next.inj ((exec_frameDecode frame s).symm.trans hexec)
    rw [State.give_result, State.give_decChain]
    exact ⟨fun p hresult => exec_rxFrame_of_ok ((decodeResult_eq_ok_iff _ p).mp (Option.some.inj hresult)),
      fun r hresult => exec_rxFrame_of_error ((decodeResult_eq_corrupt_iff _ r).mp (Option.some.inj hresult))⟩

end Sys2Proof.Machine
end

section
/-! # AUTH_BUILD and AUTH_CHECK (46_session.md R301, R303) -/

namespace Sys2Proof

theorem decode_authBuild (key : Bytes) (enableFlag : Byte) :
    decode ⟨0x5000, [.bytes key, .byte enableFlag]⟩ = .ok (.authBuild key enableFlag) := by
  simp [decode, rowOf, opcodeRows, bytesRow, bareRow]

theorem decode_authCheck (o : Bool) (echo : Bytes) :
    decode ⟨if o then 0x5101 else 0x5100, [.bytes echo]⟩ = .ok (.authCheck o echo) := by
  cases o with
  | false => exact decode_of_bytesRow (make := fun w => .authCheck (bitX w)) rfl echo
  | true => exact decode_of_bytesRow (make := fun w => .authCheck (bitX w)) rfl echo

end Sys2Proof

namespace Sys2Proof.Machine

/-! ### Draws in a row (41_cipher.md R140) -/

theorem drawsTaken_drawsTaken (m n : Nat) (s : State) : drawsTaken n (drawsTaken m s) = drawsTaken (m + n) s := by
  have hcount : s.drawCount + (m - s.entropy.length) + (n - (s.entropy.length - m)) =
      s.drawCount + (m + n - s.entropy.length) := by omega
  simp only [drawsTaken, List.drop_drop, List.length_drop, hcount]

theorem drawAt_drawsTaken (m n : Nat) (s : State) : drawAt (drawsTaken m s) n = drawAt s (m + n) := by
  have hcount : s.drawCount + (m - s.entropy.length) + (n - (s.entropy.length - m)) =
      s.drawCount + (m + n - s.entropy.length) := by omega
  simp only [drawAt, drawsTaken, List.getD_eq_getElem?_getD, List.getElem?_drop, List.length_drop, hcount]

/-! ### AUTH_BUILD, draw by draw -/

/-- The encrypt stream on one block leaves that block's ciphertext in the register (41_cipher.md R144). -/
theorem encAdvance_blockBytes (b : Block) (s : State) :
    s.encAdvance (blockBytes b) = { s with encChain := aesE s.key (blockXor b s.encChain) } := by
  rw [State.encAdvance, State.encBlocks, blocksOf_blockBytes]
  rfl

theorem authSeeded_eq (k : Block) (s : State) :
    s.authSeeded k = (drawsTaken 1 s).seed k (drawAt s 0) := by
  rw [State.authSeeded, State.afterDraw_eq_drawsTaken, State.drawn_eq_drawAt]

theorem authChallenge_eq (k : Block) (s : State) : s.authChallenge k = challengeBlock (drawAt s 1) := by
  have hdraw : (s.authSeeded k).drawn = drawAt (drawsTaken 1 s) 0 := by
    rw [State.drawn_eq_drawAt, authSeeded_eq]
    rfl
  rw [State.authChallenge, hdraw, drawAt_drawsTaken]

theorem authChallenged_eq (k : Block) (s : State) :
    s.authChallenged k =
      { (drawsTaken 2 s).seed k (drawAt s 0) with
        encChain := aesE k (blockXor (challengeBlock (drawAt s 1)) (drawAt s 0)) } := by
  have hdraws : drawsTaken 1 ((drawsTaken 1 s).seed k (drawAt s 0)) = (drawsTaken 2 s).seed k (drawAt s 0) :=
    congrArg (State.seed k (drawAt s 0)) (drawsTaken_drawsTaken 1 1 s)
  rw [State.authChallenged, authChallenge_eq, encAdvance_blockBytes, State.afterDraw_eq_drawsTaken, authSeeded_eq,
    hdraws]
  rfl

theorem authBuilt_eq (k : Block) (s : State) :
    s.authBuilt k =
      { drawsTaken 3 s with
        key := k, iv := drawAt s 0, decChain := drawAt s 0, ready := true
        encChain := aesE k (blockXor (challengeBlock (drawAt s 1)) (drawAt s 0))
        cmp := drawAt s 2, cmpValid := true, authOk := false } := by
  have hdraw : (s.authChallenged k).drawn = drawAt s 2 := by
    rw [State.drawn_eq_drawAt, authChallenged_eq]
    exact drawAt_drawsTaken 2 0 s
  rw [State.authBuilt, hdraw, State.afterDraw_eq_drawsTaken, authChallenged_eq, ← drawsTaken_drawsTaken 2 1 s]
  rfl

theorem authEncrypted_eq (k : Block) (s : State) :
    s.authEncrypted k = aesE k (blockXor (challengeBlock (drawAt s 1)) (drawAt s 0)) := by
  rw [State.authEncrypted, authChallenged_eq]

theorem execAuthBuild_of_good_key {key : Bytes} (hkey : key.length = 16) (enableFlag : Byte) (s : State) :
    execAuthBuild key enableFlag s = .next (returned
      (.bytes (authContent enableFlag (drawAt s 0) (s.authEncrypted (blockOfBytes key)) (drawAt s 2)))
      (s.authBuilt (blockOfBytes key))) := by
  have hcmp : (s.authBuilt (blockOfBytes key)).cmp = drawAt s 2 := by rw [authBuilt_eq]
  rw [execAuthBuild, block16_eq_some hkey]
  dsimp only
  rw [hcmp, State.drawn_eq_drawAt]
  rfl

/-- Settles O53: the key's length decides; a good key leaves what three draws make, a bad one the refusal of R143. -/
theorem authBuildMakesAuthPacket : Obligations.AuthBuildMakesAuthPacket := by
  rintro key enableFlag s k v r c ech rfl rfl rfl rfl rfl
  refine ⟨decode_authBuild key enableFlag, fun hkey => ?_, fun hkey => ?_⟩
  · refine (execAuthBuild_of_good_key hkey enableFlag s).trans ?_
    rw [authEncrypted_eq, authBuilt_eq]
    rfl
  · exact (execAuthBuild_of_bad_key hkey enableFlag s).trans (congrArg _ s.badKey_eq)

/-! ### AUTH_CHECK, one equation for each way it ends -/

section
variable {s : State} {echo : Bytes} (o : Bool)

theorem execAuthCheck_of_no_challenge (echo : Bytes) (hcmp : s.cmpValid = false) :
    execAuthCheck o echo s = .next (faulted .noChallenge s) := by
  rw [execAuthCheck, hcmp, ← State.raise_eq_faulted]
  rfl

theorem execAuthCheck_of_bad_echo (hcmp : s.cmpValid = true) (hecho : echo.length ≠ 16) :
    execAuthCheck o echo s = .next (faulted .badOperand s) := by
  rw [execAuthCheck, hcmp, block16_eq_none hecho, ← State.raise_eq_faulted]
  rfl

theorem execAuthCheck_of_not_ready (hcmp : s.cmpValid = true) (hecho : echo.length = 16) (hready : s.ready = false) :
    execAuthCheck o echo s = .next (faulted .notReady s) := by
  rw [execAuthCheck, hcmp, block16_eq_some hecho, hready, ← State.raise_eq_faulted]
  rfl

/-- The decrypt stream on one block leaves that block in the register (41_cipher.md R145). -/
theorem decAdvance_of_block (hecho : echo.length = 16) (s : State) :
    s.decAdvance echo = { s with decChain := blockOfBytes echo } := by
  rw [State.decAdvance, lastBlock_blocksOf (n := 1) hecho one_ne_zero]
  rfl

theorem echoAccepted_eq (b : Block) (s : State) :
    s.echoAccepted b = decide (blockXor (aesD s.key b) s.decChain = s.cmp) := beq_eq_decide ..

/-- Past the checks, the decrypted echo is compared and the decrypt chain moves either way. -/
theorem execAuthCheck_of_ready (hcmp : s.cmpValid = true) (hecho : echo.length = 16) (hready : s.ready = true) :
    execAuthCheck o echo s = .next
      (if blockXor (aesD s.key (blockOfBytes echo)) s.decChain = s.cmp then
        returned (.byte 0x01) { s with decChain := blockOfBytes echo, encOut := o, authOk := true }
      else returned (.byte 0x00) { s with decChain := blockOfBytes echo, authOk := false }) := by
  rw [execAuthCheck, if_neg (by simp [hcmp]), block16_eq_some hecho]
  dsimp only
  rw [if_neg (by simp [hready]), decAdvance_of_block hecho, echoAccepted_eq]
  by_cases haccepted : blockXor (aesD s.key (blockOfBytes echo)) s.decChain = s.cmp
  · rw [if_pos haccepted, decide_eq_true haccepted]
    rfl
  · rw [if_neg haccepted, decide_eq_false haccepted]
    rfl

end

/-- Settles O54: the first check that fails decides; past all of them, the comparison does. -/
theorem authCheckComparesDecryptedEcho : Obligations.AuthCheckComparesDecryptedEcho := by
  refine fun o echo s => ⟨decode_authCheck o echo, ?_⟩
  by_cases hcmp : s.cmpValid = false
  · rw [if_pos hcmp]
    exact execAuthCheck_of_no_challenge o echo hcmp
  by_cases hecho : echo.length ≠ 16
  · rw [if_neg hcmp, if_pos hecho]
    exact execAuthCheck_of_bad_echo o (eq_true_of_ne_false hcmp) hecho
  by_cases hready : s.ready = false
  · rw [if_neg hcmp, if_neg hecho, if_pos hready]
    exact execAuthCheck_of_not_ready o (eq_true_of_ne_false hcmp) (not_not.mp hecho) hready
  · rw [if_neg hcmp, if_neg hecho, if_neg hready]
    exact execAuthCheck_of_ready o (eq_true_of_ne_false hcmp) (not_not.mp hecho) (eq_true_of_ne_false hready)

end Sys2Proof.Machine
end

section
/-! # SEND (46_session.md R306; 45_chunker.md R260, R265)

SEND encodes by the same two functions as FRAME_ENCODE, `encodedFrame` and `afterEncode`. What is left is that the frame
is a header and whole sub-packets, so that its BLE units are the slices R260 names. -/

namespace Sys2Proof

theorem decode_send (r : Bool) (content : Bytes) :
    decode ⟨if r then 0x5280 else 0x5200, [.bytes content]⟩ = .ok (.send r content) := by
  cases r with
  | false => exact decode_of_bytesRow (make := fun w => .send (bitR w)) rfl content
  | true => exact decode_of_bytesRow (make := fun w => .send (bitR w)) rfl content

end Sys2Proof

namespace Sys2Proof.Machine

/-! ### The length of a frame -/

theorem plainBody_length (content : Bytes) : (plainBody content).length = 16 * ((content.length + 19) / 16) := by
  simp only [plainBody, payloadRegion, subpacketsFor, List.length_append, be32_length, zeros_length, crcLen, subpacket]
  omega

theorem State.encOutput_length (body : Bytes) (s : State) : (s.encOutput body).length = 16 * (body.length / 16) := by
  rw [State.encOutput, bytesOf_length, State.encBlocks, cbcEncrypt_length, blocksOf_length]

theorem State.encodedFrame_length (respond encrypt : Bool) (content : Bytes) (s : State) :
    (s.encodedFrame respond encrypt content).length = 2 + 16 * ((content.length + 19) / 16) := by
  rw [State.encodedFrame, frameOf, List.length_cons, List.length_cons]
  cases encrypt with
  | false =>
    rw [if_neg Bool.false_ne_true, plainBody_length]
    omega
  | true =>
    rw [if_pos rfl, State.encOutput_length, plainBody_length]
    omega

/-! ### The units of a frame -/

/-- R260: the header goes with the first piece of the body, and each later piece starts `2 + 16k` bytes into the frame. -/
theorem units_eq_bleUnits {frame : Bytes} {n : Nat} (hlength : frame.length = 2 + 16 * n) (hn : n ≠ 0) :
    units (some (headerOf frame)) (frame.drop hdrLen) = bleUnits n frame := by
  obtain ⟨m, rfl⟩ := Nat.exists_eq_succ_of_ne_zero hn
  obtain ⟨h0, rest, rfl⟩ := List.exists_of_length_succ (n := 16 * (m + 1) + 1) frame (by omega)
  obtain ⟨h1, body, rfl⟩ := List.exists_of_length_succ (n := 16 * (m + 1)) rest
    (by rw [List.length_cons] at hlength; omega)
  have hchunks : chunks16 body = body.take 16 :: pieces m (body.drop 16) := by
    have hcount : body.length / 16 = m + 1 := by rw [List.length_cons, List.length_cons] at hlength; omega
    rw [chunks16, hcount, pieces]
  calc units (some (h0, h1)) body
      = (h0 :: h1 :: body.take 16) :: pieces m (body.drop 16) := by simp only [units, hchunks]
    _ = bleUnits (m + 1) (h0 :: h1 :: body) := by
        rw [bleUnits, List.range_succ_eq_map, List.map_cons, List.map_map, pieces_eq_map]
        refine congrArg _ (List.map_congr_left fun k _ => ?_)
        have hskip : 2 + 16 * (k + 1) = 16 + 16 * k + 2 := by omega
        simp [hskip]

/-! ### The checks -/

section
variable {s : State} (r : Bool) {content : Bytes}

theorem contentFits_of_illegal (h : content = [] ∨ 268 < content.length) : contentFits content = false := by
  obtain rfl | hlong := h
  · rfl
  · simp [contentFits, hlong]

theorem execSend_of_special (content : Bytes) (hmode : s.config.specialChunkingMode = true) :
    execSend r content s = .next (faulted .refused s) := by
  rw [execSend, if_pos hmode, State.raise_eq_faulted]

theorem execSend_of_illegal (hmode : s.config.specialChunkingMode = false) (hfits : contentFits content = false) :
    execSend r content s = .next (faulted .contentLength s) := by
  simp [execSend, hmode, hfits, State.raise_eq_faulted]

section
variable (hmode : s.config.specialChunkingMode = false) (hfits : contentFits content = true)
  (hready : s.encOut = true → s.ready = true)
include hmode hfits hready

theorem execSend_of_header_pending (hbackend : s.config.backend = .ble) (hheader : s.hdrBuf ≠ none) :
    execSend r content s = .next (faulted .headerPending s) := by
  have hcipher : (s.encOut && !s.ready) = false := by simpa using hready
  have hpending : s.hdrBuf.isSome = true := Option.isSome_iff_ne_none.mpr hheader
  simp [execSend, hmode, hfits, hcipher, hbackend, hpending, State.raise_eq_faulted]

theorem execSend_of_clear (hheader : s.config.backend = .ble → s.hdrBuf = none) :
    execSend r content s = .next ((s.afterEncode s.encOut content).sendUnits
      (frameUnits s.config.backend (s.encodedFrame r s.encOut content))) := by
  have hcipher : (s.encOut && !s.ready) = false := by simpa using hready
  have hclear : (s.config.backend == .ble && s.hdrBuf.isSome) = false := by simpa using hheader
  simp [execSend, hmode, hfits, hcipher, hclear]

end

theorem execFrameEncode_of_fits {encrypt : Bool} (hfits : contentFits content = true)
    (hready : encrypt = true → s.ready = true) :
    execFrameEncode r encrypt content s =
      .next (returned (.bytes (s.encodedFrame r encrypt content)) (s.afterEncode encrypt content)) := by
  have hcipher : (encrypt && !s.ready) = false := by simpa using hready
  simp [execFrameEncode, hfits, hcipher, State.give, returned]

end

theorem frameUnits_encodedFrame (r : Bool) (content : Bytes) (s : State) :
    frameUnits s.config.backend (s.encodedFrame r s.encOut content) =
      if s.config.backend = .ble then bleUnits ((content.length + 19) / 16) (s.encodedFrame r s.encOut content)
      else [s.encodedFrame r s.encOut content] := by
  cases s.config.backend with
  | ble => exact units_eq_bleUnits (s.encodedFrame_length r s.encOut content) (by omega)
  | spp => rfl

/-- Encoding a frame writes the encrypt chain alone (43_frame_codec.md R201). -/
theorem afterEncode_eq_with_encChain (encrypt : Bool) (content : Bytes) (s : State) :
    s.afterEncode encrypt content = { s with encChain := (s.afterEncode encrypt content).encChain } := by
  rw [afterEncode_eq]

theorem sendUnits_eq (us : List Bytes) (s : State) :
    s.sendUnits us = returned (.bytes []) (queuedAndIssued us s) := by
  rw [State.sendUnits, issue_enqueue]
  rfl

/-- Settles O57: check by check, and past them both commands encode the frame by the same functions. -/
theorem sendQueuesEncodedFrame : Obligations.SendQueuesEncodedFrame := by
  refine fun r content s => ⟨decode_send r content, execSend_of_special r content, fun hmode =>
    ⟨fun hillegal => execSend_of_illegal r hmode (contentFits_of_illegal hillegal), fun hne hle => ?_⟩⟩
  have hfits : contentFits content = true := contentFits_of_length hne hle
  refine ⟨fun ⟨hout, hunready⟩ => execSend_of_not_ready hunready r hmode hfits hout, fun hready =>
    ⟨fun ⟨hbackend, hheader⟩ => execSend_of_header_pending r hmode hfits hready hbackend hheader,
      fun hheader => ⟨_, _, execFrameEncode_of_fits r hfits hready, rfl, ?_⟩⟩⟩
  refine (execSend_of_clear r hmode hfits hready hheader).trans ?_
  rw [sendUnits_eq, frameUnits_encodedFrame, afterEncode_eq_with_encChain]
  rfl

end Sys2Proof.Machine
end

section
/-! # A faulting command changes nothing else (60_exceptions.md R322)

A command ends by raising a fault or by completing with a result that is no fault. So a FAULT on the result port tells
which of the two it was, and raising writes the port and the sticky flag alone. -/

namespace Sys2Proof.Machine

/-- A command that ends with a FAULT on the port has raised it, and done nothing besides. -/
theorem RaisesOrCompletes.eq_faulted {s t : State} {k : FaultKind} (hends : RaisesOrCompletes s (.next t))
    (hresult : t.result = some (.fault k)) : t = faulted k s := by
  cases hends with
  | raises raised =>
    rw [State.raise_result] at hresult
    cases hresult
    exact s.raise_eq_faulted k
  | completes _ noFault =>
    rw [State.give_result] at hresult
    exact absurd (Option.some.inj hresult) (noFault k)

/-- Settles O9: by what a command can answer, run by `exec` or taken off the port by `step`. -/
theorem faultingCommandChangesNothing : Obligations.FaultingCommandChangesNothing :=
  ⟨fun i s _ _ hexec hresult => (hexec ▸ exec_raisesOrCompletes i s).eq_faulted hresult,
    fun _ _ _ _ _ hpending hstep hresult => (hstep ▸ step_raisesOrCompletes hpending).eq_faulted hresult⟩

end Sys2Proof.Machine
end

section
/-! # The command port's code (30_encoding.md R90, R91, R94 to R96)

One direction is a table: each instruction's command has its `decode_` equation. The other direction and the operand
check are facts about single rows of the opcode map, `RowInverts` and `RowChecksTypes`; the decoder picks a row and
inherits them. -/

namespace Sys2Proof

/-! ### Decoding what the encoder wrote -/

theorem encodeWord_packetBuild (cmd param : Byte) (data : Bytes) :
    encodeWord (.packetBuild cmd (some param) data) = 0x2001 := by simp [encodeWord, modifier]

theorem encodeWord_authCheck (o : Bool) (echo : Bytes) :
    encodeWord (.authCheck o echo) = if o then 0x5101 else 0x5100 := by cases o <;> simp [encodeWord, modifier]

theorem encodeWord_send (r : Bool) (content : Bytes) :
    encodeWord (.send r content) = if r then 0x5280 else 0x5200 := by cases r <;> simp [encodeWord, modifier]

theorem encode_eq_of_word {i : Instr} {w : Half} (h : encodeWord i = w) : encode i = ⟨w, encodeOperands i⟩ :=
  congrArg (Command.mk · _) h

theorem decode_frameEncode (r e : Bool) (content : Bytes) :
    decode (encode (.frameEncode r e content)) = .ok (.frameEncode r e content) := by
  cases r <;> cases e <;>
    simp [decode, encode, encodeWord, encodeOperands, modifier, rowOf, opcodeRows, bytesRow, bareRow, bitR, bitE]

theorem decode_txWrite (w : Bytes) : decode ⟨0x4000, [.bytes w]⟩ = .ok (.txWrite w) :=
  decode_of_bytesRow (make := fun _ => .txWrite) rfl w

theorem decode_txWriteDone : ∀ success : Bool,
    decode (encode (.txWriteDone success)) = .ok (.txWriteDone success) := by decide

/-- A timestamp of the interface comes back from its 64 bits (00_scope.md R8). -/
theorem toNat_ofNat_of_timeFits {t : Nat} (h : timeFits t = true) : (BitVec.ofNat 64 t).toNat = t := by
  rw [BitVec.toNat_ofNat, Nat.mod_eq_of_lt (of_decide_eq_true h)]

theorem decode_encode (i : Instr) (h : WellFormed i) : decode (encode i) = .ok i := by
  cases i with
  | cipherInit key => exact Machine.decode_cipherInit key
  | cipherEncrypt data => exact Machine.decode_cipherEncrypt data
  | cipherDecrypt data => exact Machine.decode_cipherDecrypt data
  | cipherIsReady => exact Machine.decode_cipherIsReady
  | crc32 data => exact decode_crc32 data
  | crcStamp region => exact decode_crcStamp region
  | crcValidate region => exact decode_crcValidate region
  | packetBuild cmd param data =>
    cases param with
    | none => exact decode_packetBuild cmd data
    | some p =>
      rw [encode_eq_of_word (encodeWord_packetBuild cmd p data)]
      exact decode_packetBuild_param cmd p data
  | frameEncode r e content => exact decode_frameEncode r e content
  | frameDecode frame => exact decode_frameDecode frame
  | rxByte b t => exact (decode_rxByte b _).trans (by rw [toNat_ofNat_of_timeFits h])
  | txWrite w => exact decode_txWrite w
  | txWriteDone success => exact decode_txWriteDone success
  | bleNotify value t => exact (decode_bleNotify value _).trans (by rw [toNat_ofNat_of_timeFits h])
  | authBuild key enableFlag => exact decode_authBuild key enableFlag
  | authCheck o echo =>
    rw [encode_eq_of_word (encodeWord_authCheck o echo)]
    exact decode_authCheck o echo
  | send r content =>
    rw [encode_eq_of_word (encodeWord_send r content)]
    exact decode_send r content
  | sessionReset => exact decode_sessionReset
  | rxFrame frame => exact decode_rxFrame frame

/-- Settles O1: constructor by constructor, each command by the equation of its word. -/
theorem decodeOfEncodeReturnsInstruction : Obligations.DecodeOfEncodeReturnsInstruction := decode_encode

/-! ### Encoding what the decoder read -/

/-- A row makes of a word and operands only an instruction that encodes to them, and that the port can carry. -/
def RowInverts (r : OpcodeRow) : Prop :=
  ∀ (w : Half) (ops : List Operand) (i : Instr), w &&& r.mask = r.pattern → r.build w ops = some i →
    encode i = ⟨w, ops⟩ ∧ WellFormed i

/-- The bits a row leaves free are those of `free`, so a word of the row is the pattern with those bits of it. -/
theorem word_eq_of_masked {w pattern mask : Half} (free : Half) (hfree : free = ~~~mask) (h : w &&& mask = pattern) :
    pattern ||| (w &&& free) = w := by
  rw [← h, hfree, ← BitVec.and_or_distrib_left, BitVec.or_not_self, BitVec.and_allOnes]

theorem and_bit (w : Half) (i : Nat) : w &&& BitVec.twoPow 16 i = modifier (w.getLsbD i) (BitVec.twoPow 16 i) :=
  BitVec.and_twoPow w i

theorem word_eq_of_fixed {w pattern : Half} (h : w &&& 0xFFFF = pattern) : pattern = w := by
  simpa using word_eq_of_masked 0 (by decide) h

theorem word_eq_of_flag {w pattern : Half} (h : w &&& 0xFFFE = pattern) : pattern ||| modifier (bitX w) 0x0001 = w := by
  have hbit : w &&& 0x0001 = modifier (bitX w) 0x0001 := and_bit w 0
  rw [← hbit]
  exact word_eq_of_masked 0x0001 (by decide) h

theorem word_eq_of_respond {w pattern : Half} (h : w &&& 0xFF7F = pattern) :
    pattern ||| modifier (bitR w) 0x0080 = w := by
  have hbit : w &&& 0x0080 = modifier (bitR w) 0x0080 := and_bit w 7
  rw [← hbit]
  exact word_eq_of_masked 0x0080 (by decide) h

theorem word_eq_of_respond_encrypt {w pattern : Half} (h : w &&& 0xFF3F = pattern) :
    pattern ||| modifier (bitR w) 0x0080 ||| modifier (bitE w) 0x0040 = w := by
  have hR : w &&& 0x0080 = modifier (bitR w) 0x0080 := and_bit w 7
  have hE : w &&& 0x0040 = modifier (bitE w) 0x0040 := and_bit w 6
  rw [← hR, ← hE, BitVec.or_assoc, ← BitVec.and_or_distrib_left]
  exact word_eq_of_masked _ (by decide) h

theorem bytesRow_inverts {mnemonic : String} {pattern mask : Half} {make : Half → Bytes → Instr}
    (hword : ∀ w s, w &&& mask = pattern → encodeWord (make w s) = w)
    (hrest : ∀ w s, encodeOperands (make w s) = [.bytes s] ∧ WellFormed (make w s)) :
    RowInverts (bytesRow mnemonic pattern mask make) := by
  intro w ops i hmask hbuild
  simp only [bytesRow] at hmask hbuild
  split at hbuild
  next s =>
    cases hbuild
    obtain ⟨hops, hwf⟩ := hrest w s
    exact ⟨congrArg₂ Command.mk (hword w s hmask) hops, hwf⟩
  next => cases hbuild

theorem bareRow_inverts {mnemonic : String} {pattern mask : Half} {make : Half → Instr}
    (hword : ∀ w, w &&& mask = pattern → encodeWord (make w) = w)
    (hrest : ∀ w, encodeOperands (make w) = [] ∧ WellFormed (make w)) :
    RowInverts (bareRow mnemonic pattern mask make) := by
  intro w ops i hmask hbuild
  simp only [bareRow] at hmask hbuild
  split at hbuild
  next =>
    cases hbuild
    obtain ⟨hops, hwf⟩ := hrest w
    exact ⟨congrArg₂ Command.mk (hword w hmask) hops, hwf⟩
  next => cases hbuild

theorem timeFits_toNat (t : BitVec 64) : timeFits t.toNat = true := decide_eq_true t.isLt

/-- Every row of the opcode map inverts the encoder. -/
theorem opcodeRows_invert : ∀ r ∈ opcodeRows, RowInverts r := by
  have bytes {m : String} {pattern : Half} {make : Bytes → Instr} (hword : ∀ s, encodeWord (make s) = pattern)
      (hrest : ∀ s, encodeOperands (make s) = [.bytes s] ∧ WellFormed (make s)) :
      RowInverts (bytesRow m pattern 0xFFFF fun _ => make) :=
    bytesRow_inverts (fun _ s h => (hword s).trans (word_eq_of_fixed h)) fun _ => hrest
  simp only [opcodeRows, List.forall_mem_cons, List.not_mem_nil, false_imp_iff, implies_true, and_true]
  refine ⟨?cipherInit, ?cipherEncrypt, ?cipherDecrypt, ?cipherIsReady, ?crc32, ?crcStamp, ?crcValidate, ?packetBuild,
    ?frameEncode, ?frameDecode, ?rxByte, ?txWrite, ?txWriteDone, ?bleNotify, ?authBuild, ?authCheck, ?send,
    ?sessionReset, ?rxFrame⟩
  case cipherIsReady => exact bareRow_inverts (fun _ h => word_eq_of_fixed h) fun _ => ⟨rfl, rfl⟩
  case sessionReset => exact bareRow_inverts (fun _ h => word_eq_of_fixed h) fun _ => ⟨rfl, rfl⟩
  case txWriteDone => exact bareRow_inverts (fun _ h => word_eq_of_flag h) fun _ => ⟨rfl, rfl⟩
  case authCheck => exact bytesRow_inverts (fun _ _ h => word_eq_of_flag h) fun _ _ => ⟨rfl, rfl⟩
  case send => exact bytesRow_inverts (fun _ _ h => word_eq_of_respond h) fun _ _ => ⟨rfl, rfl⟩
  case frameEncode => exact bytesRow_inverts (fun _ _ h => word_eq_of_respond_encrypt h) fun _ _ => ⟨rfl, rfl⟩
  case packetBuild =>
    intro w ops i hmask hbuild
    have hword := word_eq_of_flag hmask
    dsimp only at hbuild
    split at hbuild
    next hflag =>
      rw [hflag] at hword
      split at hbuild <;> cases hbuild
      exact ⟨congrArg (Command.mk · _) hword, rfl⟩
    next hflag =>
      rw [eq_false_of_ne_true hflag] at hword
      split at hbuild <;> cases hbuild
      exact ⟨congrArg (Command.mk · _) hword, rfl⟩
  case rxByte =>
    intro w ops i hmask hbuild
    dsimp only at hbuild
    split at hbuild <;> cases hbuild
    next b t => exact ⟨congrArg₂ Command.mk (word_eq_of_fixed hmask) (by simp [encodeOperands]), timeFits_toNat t⟩
  case bleNotify =>
    intro w ops i hmask hbuild
    dsimp only at hbuild
    split at hbuild <;> cases hbuild
    next value t => exact ⟨congrArg₂ Command.mk (word_eq_of_fixed hmask) (by simp [encodeOperands]), timeFits_toNat t⟩
  case authBuild =>
    intro w ops i hmask hbuild
    dsimp only at hbuild
    split at hbuild <;> cases hbuild
    exact ⟨congrArg (Command.mk · _) (word_eq_of_fixed hmask), rfl⟩
  all_goals exact bytes (fun _ => rfl) fun _ => ⟨rfl, rfl⟩

theorem rowOf_eq_some {w : Half} {r : OpcodeRow} (h : rowOf w = some r) : r ∈ opcodeRows ∧ w &&& r.mask = r.pattern :=
  ⟨List.mem_of_find?_eq_some h, by simpa using List.find?_some h⟩

theorem decode_eq_ok_iff (c : Command) (i : Instr) :
    decode c = .ok i ↔ ∃ r, rowOf c.word = some r ∧ r.build c.word c.operands = some i := by
  unfold decode
  cases rowOf c.word with
  | none => simp
  | some r => cases h : r.build c.word c.operands <;> simp [h]

/-- Settles O2: the row that decoded the command inverts the encoder. -/
theorem decodedCommandIsItsEncoding : Obligations.DecodedCommandIsItsEncoding := by
  intro c i hdecode
  obtain ⟨r, hrow, hbuild⟩ := (decode_eq_ok_iff c i).mp hdecode
  obtain ⟨hmem, hmask⟩ := rowOf_eq_some hrow
  exact opcodeRows_invert r hmem c.word c.operands i hmask hbuild

/-! ### The operand check -/

/-- A row builds an instruction exactly of operands of the types it asks for. -/
def RowChecksTypes (r : OpcodeRow) : Prop :=
  ∀ (w : Half) (ops : List Operand), r.build w ops = none ↔ ops.map Operand.type ≠ r.shape w

@[simp] theorem type_eq_byte_iff (o : Operand) : o.type = .byte ↔ ∃ b, o = .byte b := by
  cases o <;> simp [Operand.type]

@[simp] theorem type_eq_time_iff (o : Operand) : o.type = .time ↔ ∃ t, o = .time t := by
  cases o <;> simp [Operand.type]

@[simp] theorem type_eq_bytes_iff (o : Operand) : o.type = .bytes ↔ ∃ s, o = .bytes s := by
  cases o <;> simp [Operand.type]

/-- Every row of the opcode map checks its operand types: the list its `build` matches is the one its `shape` names. -/
theorem opcodeRows_check_types : ∀ r ∈ opcodeRows, RowChecksTypes r := by
  have bytes (m : String) (pattern mask : Half) (make : Half → Bytes → Instr) :
      RowChecksTypes (bytesRow m pattern mask make) := by
    intro w ops
    dsimp only [bytesRow]
    split <;> simp_all [List.map_eq_cons_iff]
  have bare (m : String) (pattern mask : Half) (make : Half → Instr) :
      RowChecksTypes (bareRow m pattern mask make) := by
    intro w ops
    dsimp only [bareRow]
    split <;> simp_all
  simp only [opcodeRows, List.forall_mem_cons, List.not_mem_nil, false_imp_iff, implies_true, and_true, bytes, bare,
    true_and]
  refine ⟨?packetBuild, ?rxByte, ?bleNotify, ?authBuild⟩
  case packetBuild =>
    intro w ops
    cases hflag : bitX w with
    | true =>
      simp only [hflag, if_true]
      split <;> simp_all [List.map_eq_cons_iff]
    | false =>
      simp only [hflag, if_neg Bool.false_ne_true]
      split <;> simp_all [List.map_eq_cons_iff]
  all_goals
    intro w ops
    dsimp only
    split <;> simp_all [List.map_eq_cons_iff]

theorem decode_eq_badOperand_iff (c : Command) :
    decode c = .error .badOperand ↔ ∃ r, rowOf c.word = some r ∧ r.build c.word c.operands = none := by
  unfold decode
  cases rowOf c.word with
  | none => simp
  | some r => cases h : r.build c.word c.operands <;> simp [h]

/-- Settles O4: the decoder reports a bad operand when the word's row builds nothing, and the row then names other
types. -/
theorem badOperandExactlyByTypes : Obligations.BadOperandExactlyByTypes := by
  intro c
  rw [decode_eq_badOperand_iff]
  exact exists_congr fun r => and_congr_right fun hrow =>
    opcodeRows_check_types r (rowOf_eq_some hrow).1 c.word c.operands

/-- Settles O5, word by word. -/
theorem listedCommandWordsDecode : Obligations.ListedCommandWordsDecode := by
  refine ⟨by decide, decode_packetBuild_param _ _ _, ?_, decode_send true _, by decide, decode_authCheck true _,
    decode_rxByte _ _⟩
  decide

end Sys2Proof
end

section
/-! # One step, and the state after power-on (60_exceptions.md R320 to R324; 70_reset_and_hazards.md R360 to R362) -/

namespace Sys2Proof.Machine

/-! ### The step -/

theorem step_of_decode_ok {s : State} {c : Command} {rest : List Command} {i : Instr} (hpending : s.pending = c :: rest)
    (hdecode : decode c = .ok i) : step s = exec i { s with pending := rest } := by
  simp [step, fetchCommand, hpending, hdecode]

/-- Settles O6. -/
theorem stepRunsDecodedCommand : Obligations.StepRunsDecodedCommand :=
  fun _ _ _ _ hpending hdecode => step_of_decode_ok hpending hdecode

/-- Settles O7: the decoder's error names the fault, and an empty port leaves the step nothing to do. -/
theorem rejectedCommandRaisesItsFault : Obligations.RejectedCommandRaisesItsFault :=
  ⟨fun _ _ _ hpending => ⟨step_of_decode_error hpending, step_of_decode_error hpending⟩,
    fun _ => step_of_pending_nil⟩

/-- Raising and completing both answer a next state. -/
theorem RaisesOrCompletes.exists_next {s : State} {a : Answer} (h : RaisesOrCompletes s a) : ∃ t, a = .next t := by
  cases h with
  | raises k => exact ⟨_, rfl⟩
  | completes => exact ⟨_, rfl⟩

/-- Settles O8: with a command at the port it raises or completes, and with none the state stays. -/
theorem everyStepAnswersNext : Obligations.EveryStepAnswersNext := by
  intro s
  cases hpending : s.pending with
  | nil => exact ⟨s, step_of_pending_nil hpending⟩
  | cons c rest => exact (step_raisesOrCompletes hpending).exists_next

/-! ### Power-on reset -/

/-- Settles O13: the fields of `powerOn`. -/
theorem powerOnResetValues : Obligations.PowerOnResetValues := fun _ =>
  ⟨rfl, rfl, rfl, rfl, rfl, rfl, rfl, rfl, rfl, rfl, rfl, rfl, rfl, rfl, rfl⟩

theorem powerOn_inv (cfg : Config) : Inv (State.powerOn cfg) where
  bufLength := rfl
  posInBuf := le_rfl
  targetShape := .inl rfl
  dataState := nofun
  wdBound := Nat.zero_le _
  creditFree _ := rfl
  queueUnits := nofun
  headerOnlyBle _ := rfl
  authHasChallenge := nofun
  encOutHasChallenge := nofun
  faultKept := nofun

theorem powerOn_outputsLegal (cfg : Config) : OutputsLegal (State.powerOn cfg) := nofun

/-- Settles O14: everything is empty, idle and unmarked after power-on, and no event stands in the sequence. -/
theorem resetSatisfiesInvariant : Obligations.ResetSatisfiesInvariant :=
  ⟨powerOn_inv _, powerOn_outputsLegal _, fun cfg => ⟨powerOn_inv cfg, powerOn_outputsLegal cfg⟩⟩

/-- SESSION_RESET assigns what power-on left in each element it writes. -/
theorem powerOn_sessionCleared (cfg : Config) : (State.powerOn cfg).sessionCleared = State.powerOn cfg := rfl

/-- Settles O59: the elements SESSION_RESET clears are clear after power-on, and the sticky flag is none of them. -/
theorem sessionResetAfterPowerOnIsIdle : Obligations.SessionResetAfterPowerOnIsIdle := by
  refine ⟨fun cfg => by rw [exec_sessionReset, powerOn_sessionCleared], fun s t hexec => ?_⟩
  cases hexec
  rfl

end Sys2Proof.Machine
end

section
/-! # AES decryption inverts encryption (41_cipher.md R130 to R137)

Each round transformation has its inverse: cell by cell for the S-box and the row shift, by the algebra of the product
for the column mix, and AddRoundKey is its own. Both directions of R130 then peel one round at a time. -/

namespace Sys2Proof.Machine

/-! ### Cells -/

theorem byteAt_stateOf (f : Nat → Nat → Byte) {i : Nat} (hi : i < 16) : byteAt (stateOf f) i = f (i % 4) (i / 4) :=
  byteAt_blockOf _ hi

theorem cell_stateOf (f : Nat → Nat → Byte) {r c : Nat} (hr : r < 4) (hc : c < 4) : cell (stateOf f) r c = f r c := by
  rw [cell, byteAt_stateOf f (by omega)]
  congr <;> omega

theorem state_ext {a b : Block} (h : ∀ r < 4, ∀ c < 4, cell a r c = cell b r c) : a = b :=
  block_ext fun i hi => by
    have hcell := h (i % 4) (by omega) (i / 4) (by omega)
    rwa [cell, cell, Nat.mod_add_div] at hcell

/-! ### The transformations and their inverses -/

theorem invSubBytes_subBytes (s : Block) : invSubBytes (subBytes s) = s :=
  state_ext fun r hr c hc => by
    rw [invSubBytes, subBytes, cell_stateOf _ hr hc, cell_stateOf _ hr hc, invSbox_sbox]

theorem subBytes_invSubBytes (s : Block) : subBytes (invSubBytes s) = s :=
  state_ext fun r hr c hc => by
    rw [subBytes, invSubBytes, cell_stateOf _ hr hc, cell_stateOf _ hr hc, sbox_invSbox]

theorem invShiftRows_shiftRows (s : Block) : invShiftRows (shiftRows s) = s :=
  state_ext fun r hr c hc => by
    rw [invShiftRows, shiftRows, cell_stateOf _ hr hc, cell_stateOf _ hr (Nat.mod_lt _ (by decide))]
    congr 1
    omega

theorem shiftRows_invShiftRows (s : Block) : shiftRows (invShiftRows s) = s :=
  state_ext fun r hr c hc => by
    rw [shiftRows, invShiftRows, cell_stateOf _ hr hc, cell_stateOf _ hr (Nat.mod_lt _ (by decide))]
    congr 1
    omega

theorem addRoundKey_addRoundKey (k : Block) (j : Nat) (s : Block) : addRoundKey k j (addRoundKey k j s) = s :=
  blockXor_cancel_right s (roundKey k j)

/-! ### The column mix -/

theorem gmulBits_xor_right (n : Nat) (a b c : Byte) :
    gmulBits n a (b ^^^ c) = gmulBits n a b ^^^ gmulBits n a c := by
  have pick (a : Byte) (p q : Bool) :
      (if (p ^^ q) then a else 0) = (if p then a else 0) ^^^ (if q then a else 0) := by
    cases p <;> cases q <;> simp
  induction n generalizing a b c with
  | zero => simp [gmulBits]
  | succ n ih =>
    have hbits : (b ^^^ c) >>> 1 = b >>> 1 ^^^ c >>> 1 := BitVec.ushiftRight_xor_distrib b c 1
    rw [gmulBits, gmulBits, gmulBits, hbits, ih, BitVec.getLsbD_xor, pick]
    ac_rfl

theorem gmul_xor_right (a b c : Byte) : gmul a (b ^^^ c) = gmul a b ^^^ gmul a c := gmulBits_xor_right 8 a b c

theorem cell_mixWith (m0 m1 m2 m3 : Byte) (s : Block) {r c : Nat} (hr : r < 4) (hc : c < 4) :
    cell (mixWith m0 m1 m2 m3 s) r c =
      gmul m0 (cell s r c) ^^^ gmul m1 (cell s ((r + 1) % 4) c) ^^^ gmul m2 (cell s ((r + 2) % 4) c) ^^^
        gmul m3 (cell s ((r + 3) % 4) c) :=
  cell_stateOf _ hr hc

/-- Mixing twice is one mix, by the product of the two coefficient rows modulo `x^4 - 1`. -/
theorem mixWith_mixWith (n0 n1 n2 n3 m0 m1 m2 m3 : Byte) (s : Block) :
    mixWith n0 n1 n2 n3 (mixWith m0 m1 m2 m3 s) =
      mixWith (gmul n0 m0 ^^^ gmul n1 m3 ^^^ gmul n2 m2 ^^^ gmul n3 m1)
        (gmul n0 m1 ^^^ gmul n1 m0 ^^^ gmul n2 m3 ^^^ gmul n3 m2)
        (gmul n0 m2 ^^^ gmul n1 m1 ^^^ gmul n2 m0 ^^^ gmul n3 m3)
        (gmul n0 m3 ^^^ gmul n1 m2 ^^^ gmul n2 m1 ^^^ gmul n3 m0) s := by
  refine state_ext fun r hr c hc => ?_
  have row (k : Nat) : (r + k) % 4 < 4 := Nat.mod_lt _ (by decide)
  have wrap (j k : Nat) : ((r + j) % 4 + k) % 4 = (r + (j + k)) % 4 := by omega
  have h4 : (r + 4) % 4 = r := by omega
  have h5 : (r + 5) % 4 = (r + 1) % 4 := by omega
  have h6 : (r + 6) % 4 = (r + 2) % 4 := by omega
  rw [cell_mixWith _ _ _ _ _ hr hc, cell_mixWith _ _ _ _ _ hr hc, cell_mixWith _ _ _ _ _ hr hc]
  simp only [cell_mixWith _ _ _ _ _ (row _) hc, wrap, Nat.reduceAdd, h4, h5, h6, gmul_xor_right, gmul_xor_left,
    gmul_assoc]
  ac_rfl

@[simp] theorem mixWith_one (s : Block) : mixWith 1 0 0 0 s = s :=
  state_ext fun r hr c hc => by simp [cell_mixWith _ _ _ _ _ hr hc]

theorem invMixColumns_mixColumns (s : Block) : invMixColumns (mixColumns s) = s :=
  calc invMixColumns (mixColumns s) = mixWith 1 0 0 0 s := mixWith_mixWith 14 11 13 9 2 3 1 1 s
    _ = s := mixWith_one s

theorem mixColumns_invMixColumns (s : Block) : mixColumns (invMixColumns s) = s :=
  calc mixColumns (invMixColumns s) = mixWith 1 0 0 0 s := mixWith_mixWith 2 3 1 1 14 11 13 9 s
    _ = s := mixWith_one s

/-! ### The rounds -/

/-- The rounds of AES_D undo those of AES_E, down to the first AddRoundKey. -/
theorem decRounds_encRounds (k b : Block) (n : Nat) :
    decRounds k n (shiftRows (subBytes (encRounds k b n))) = shiftRows (subBytes (addRoundKey k 0 b)) := by
  induction n with
  | zero => rfl
  | succ n ih =>
    rw [decRounds, invShiftRows_shiftRows, invSubBytes_subBytes, encRounds, addRoundKey_addRoundKey,
      invMixColumns_mixColumns, ih]

theorem aesD_aesE (k b : Block) : aesD k (aesE k b) = b := by
  rw [aesD, aesE, addRoundKey_addRoundKey, decRounds_encRounds, invShiftRows_shiftRows, invSubBytes_subBytes,
    addRoundKey_addRoundKey]

/-- The rounds of AES_E, on what those of AES_D make of `s`, lead back to `s`. -/
theorem encRounds_decRounds (k s : Block) (n : Nat) :
    shiftRows (subBytes (encRounds k (addRoundKey k 0 (invSubBytes (invShiftRows (decRounds k n s)))) n)) = s := by
  induction n generalizing s with
  | zero => rw [decRounds, encRounds, addRoundKey_addRoundKey, subBytes_invSubBytes, shiftRows_invShiftRows]
  | succ n ih =>
    rw [decRounds, encRounds, ih, mixColumns_invMixColumns, addRoundKey_addRoundKey, subBytes_invSubBytes,
      shiftRows_invShiftRows]

theorem aesE_aesD (k b : Block) : aesE k (aesD k b) = b := by
  rw [aesE, aesD, encRounds_decRounds, addRoundKey_addRoundKey]

/-- Settles O18: the rounds of each function undo those of the other. -/
theorem aesDecryptInvertsEncrypt : Obligations.AesDecryptInvertsEncrypt := fun k b => ⟨aesD_aesE k b, aesE_aesD k b⟩

/-- The FIPS-197 vector, and the two round keys of V-AES-3. -/
theorem aes_fips197_vector :
    let k := blockOf fun i => BitVec.ofNat 8 i
    aesE k (blockOf fun i => BitVec.ofNat 8 (17 * i)) =
        blockOfBytes
          [0x69, 0xC4, 0xE0, 0xD8, 0x6A, 0x7B, 0x04, 0x30, 0xD8, 0xCD, 0xB7, 0x80, 0x70, 0xB4, 0xC5, 0x5A] ∧
      blockBytes (roundKey k 1) =
        [0xD6, 0xAA, 0x74, 0xFD, 0xD2, 0xAF, 0x72, 0xFA, 0xDA, 0xA6, 0x78, 0xF1, 0xD6, 0xAB, 0x76, 0xFE] ∧
      blockBytes (roundKey k 10) =
        [0x13, 0x11, 0x1D, 0x7F, 0xE3, 0x94, 0x4A, 0x17, 0xF3, 0x07, 0xA7, 0x8B, 0x4D, 0x2B, 0x30, 0xC5] := by
  decide +kernel

/-- Settles O20: by evaluation, and for the inverse by R130. -/
theorem aesExampleOfTheSpec : Obligations.AesExampleOfTheSpec := by
  obtain ⟨hencrypt, hkeys⟩ := aes_fips197_vector
  exact ⟨hencrypt, hencrypt ▸ aesD_aesE _ _, hkeys⟩

end Sys2Proof.Machine
end

section
/-! # The cipher streams across calls and back (41_cipher.md R141, R149, R150; 46_session.md R304, R305) -/

namespace Sys2Proof.Machine

/-! ### Chaining -/

@[simp] theorem lastBlock_cons (c x : Block) (xs : List Block) : lastBlock c (x :: xs) = lastBlock x xs :=
  List.getLastD_cons ..

theorem lastBlock_append (c : Block) (xs ys : List Block) : lastBlock c (xs ++ ys) = lastBlock (lastBlock c xs) ys := by
  induction xs generalizing c with
  | nil => rfl
  | cons x xs ih => simp [ih]

theorem cbcEncrypt_append (k c : Block) (ps qs : List Block) :
    cbcEncrypt k c (ps ++ qs) = cbcEncrypt k c ps ++ cbcEncrypt k (lastBlock c (cbcEncrypt k c ps)) qs := by
  induction ps generalizing c with
  | nil => rfl
  | cons p ps ih => simp [cbcEncrypt, ih]

theorem cbcDecrypt_append (k c : Block) (xs ys : List Block) :
    cbcDecrypt k c (xs ++ ys) = cbcDecrypt k c xs ++ cbcDecrypt k (lastBlock c xs) ys := by
  induction xs generalizing c with
  | nil => rfl
  | cons x xs ih => simp [cbcDecrypt, ih]

theorem bytesOf_append (bs cs : List Block) : bytesOf (bs ++ cs) = bytesOf bs ++ bytesOf cs := List.flatMap_append

theorem cbcDecrypt_cbcEncrypt (k c : Block) (ps : List Block) : cbcDecrypt k c (cbcEncrypt k c ps) = ps := by
  induction ps generalizing c with
  | nil => rfl
  | cons p ps ih => rw [cbcEncrypt, cbcDecrypt, aesD_aesE, blockXor_cancel_right, ih]

/-! ### The streams -/

section
variable (s : State) {a : Bytes} (b : Bytes) (h : a.length % 16 = 0)
include h

theorem State.encBlocks_append : s.encBlocks (a ++ b) = s.encBlocks a ++ (s.encAdvance a).encBlocks b := by
  rw [State.encBlocks, blocksOf_append a b h, cbcEncrypt_append]
  rfl

theorem State.encOutput_append : s.encOutput a ++ (s.encAdvance a).encOutput b = s.encOutput (a ++ b) := by
  simp only [State.encOutput, s.encBlocks_append b h, bytesOf_append]

theorem State.encAdvance_append : (s.encAdvance a).encAdvance b = s.encAdvance (a ++ b) := by
  rw [State.encAdvance, State.encAdvance_encChain, ← lastBlock_append, ← s.encBlocks_append b h]
  rfl

theorem State.decOutput_append : s.decOutput a ++ (s.decAdvance a).decOutput b = s.decOutput (a ++ b) := by
  simp only [State.decOutput, blocksOf_append a b h, cbcDecrypt_append, bytesOf_append]
  rfl

theorem State.decAdvance_append : (s.decAdvance a).decAdvance b = s.decAdvance (a ++ b) := by
  rw [State.decAdvance, State.decAdvance_decChain, ← lastBlock_append, ← blocksOf_append a b h]
  rfl

end

/-- Settles O21: the blocks of the joined data are those of the two parts, and each stream chains through them. -/
theorem chainingAcrossCallsIsInvisible : Obligations.ChainingAcrossCallsIsInvisible := fun s _ b h =>
  ⟨s.encOutput_append b h, s.encAdvance_append b h, s.decOutput_append b h, s.decAdvance_append b h⟩

/-- The decrypt stream of one session undoes the encrypt stream of another with the same key and chaining value. -/
theorem decOutput_encOutput {s u : State} {data : Bytes} (hdata : data.length % 16 = 0) (hkey : u.key = s.key)
    (hchain : u.decChain = s.encChain) : u.decOutput (s.encOutput data) = data := by
  rw [State.decOutput, State.encOutput, blocksOf_bytesOf, State.encBlocks, hkey, hchain, cbcDecrypt_cbcEncrypt,
    bytesOf_blocksOf data hdata]

theorem decAdvance_encOutput_decChain {s u : State} (data : Bytes) (hchain : u.decChain = s.encChain) :
    (u.decAdvance (s.encOutput data)).decChain = (s.encAdvance data).encChain := by
  rw [State.decAdvance_decChain, State.encOutput, blocksOf_bytesOf, hchain, State.encAdvance_encChain]

/-- Settles O22: block by block, from equal chaining values. -/
theorem decryptStreamInvertsEncryptStream : Obligations.DecryptStreamInvertsEncryptStream := fun _ data hdata hchain =>
  ⟨decOutput_encOutput hdata rfl hchain, decAdvance_encOutput_decChain data hchain⟩

theorem blockXor_inj_left {a b c : Block} (h : blockXor a b = blockXor a c) : b = c :=
  blockXor_inj_right (c := a) (by rwa [blockXor_comm b, blockXor_comm c])

/-- Settles O23: the chaining value enters the first block alone, and every block replaces it. -/
theorem wrongChainSpoilsFirstBlockOnly : Obligations.WrongChainSpoilsFirstBlockOnly := by
  refine fun k c c' x xs => ⟨rfl, rfl, fun hne hhead => hne ?_, by simp⟩
  exact blockXor_inj_left (Option.some.inj hhead)

/-! ### The echo -/

/-- R304: decryption is a bijection, so exactly one block decrypts to the compare blob. -/
theorem accepted_iff (key chain cmp echo : Block) :
    blockXor (aesD key echo) chain = cmp ↔ echo = aesE key (blockXor cmp chain) := by
  constructor
  · rintro rfl
    rw [blockXor_cancel_right, aesE_aesD]
  · rintro rfl
    rw [aesD_aesE, blockXor_cancel_right]

theorem blockOfBytes_eq_iff {s : Bytes} (h : s.length = 16) (b : Block) : blockOfBytes s = b ↔ s = blockBytes b := by
  constructor
  · rintro rfl
    exact (blockBytes_blockOfBytes h).symm
  · rintro rfl
    exact blockOfBytes_blockBytes b

/-- Settles O55: the comparison holds for one block, and a 16-byte string is its block. -/
theorem exactlyOneEchoIsAccepted : Obligations.ExactlyOneEchoIsAccepted := by
  intro o echo s t hcmp hready hchain hecho hexec
  obtain rfl := Host.Outcome.next.inj ((execAuthCheck_of_ready o hcmp hecho hready).symm.trans hexec)
  rw [← blockOfBytes_eq_iff hecho, ← accepted_iff, ← hchain]
  split
  next haccepted => exact iff_of_true rfl haccepted
  next hrejected => exact iff_of_false (by simp [returned]) hrejected

/-- The echo of R304 is accepted, and the decrypt chain then holds it. -/
theorem execAuthCheck_of_echo (o : Bool) {s : State} (hcmp : s.cmpValid = true) (hready : s.ready = true)
    (hchain : s.decChain = s.iv) :
    execAuthCheck o (blockBytes (aesE s.key (blockXor s.cmp s.iv))) s = .next (returned (.byte 0x01)
      { s with decChain := aesE s.key (blockXor s.cmp s.iv), encOut := o, authOk := true }) := by
  rw [execAuthCheck_of_ready o hcmp (blockBytes_length _) hready, blockOfBytes_blockBytes, hchain,
    if_pos ((accepted_iff _ _ _ _).mpr rfl)]

/-- What AUTH_BUILD with a good key returns, and what it leaves for the check of the echo: a challenge, a ready cipher
with that key, and the decrypt chain at the IV (46_session.md R301). -/
theorem authBuild_awaits_echo {key : Bytes} (hkey : key.length = 16) {enableFlag : Byte} {s t : State}
    (h : exec (.authBuild key enableFlag) s = .next t) :
    t.result = some (.ok (.bytes (0x11 :: enableFlag ::
      (blockBytes t.iv ++ blockBytes t.encChain ++ blockBytes t.cmp)))) ∧
    t.cmpValid = true ∧ t.ready = true ∧ t.key = blockOfBytes key ∧ t.decChain = t.iv := by
  obtain rfl := Host.Outcome.next.inj ((execAuthBuild_of_good_key hkey enableFlag s).symm.trans h)
  rw [authEncrypted_eq, authBuilt_eq]
  exact ⟨rfl, rfl, rfl, rfl, rfl⟩

/-- Settles O56: AUTH_BUILD leaves the decrypt chain at the IV, from which the peer's echo decrypts to the blob. -/
theorem handshakeSynchronisesChains : Obligations.HandshakeSynchronisesChains := by
  intro key enableFlag o s t u echo hkey hbuild hecho hcheck
  obtain ⟨hresult, hcmp, hready, hkeyBuilt, hchain⟩ := authBuild_awaits_echo hkey hbuild
  rw [← hkeyBuilt] at hecho
  subst hecho
  obtain rfl := Host.Outcome.next.inj ((execAuthCheck_of_echo o hcmp hready hchain).symm.trans hcheck)
  exact ⟨hresult, rfl, rfl, rfl, rfl, rfl⟩

end Sys2Proof.Machine
end

section
/-! # Single-bit errors (42_crc.md R170, R175)

One turn of the inner loop loses nothing: the bit it shifts out comes back as bit 31, which only the polynomial sets.
So the register after a byte is injective in the register before it and in the byte, and two regions that differ in one
byte have different CRCs. -/

namespace Sys2Proof.Machine

/-! ### The CRC register is injective in its inputs -/

theorem getLsbD_crcBit_top (c : Word) : (crcBit c).getLsbD 31 = c.getLsbD 0 := by
  unfold crcBit
  cases h : c.getLsbD 0 <;> simp

theorem crcBit_injective {c d : Word} (h : crcBit c = crcBit d) : c = d := by
  have hlow : c.getLsbD 0 = d.getLsbD 0 := by rw [← getLsbD_crcBit_top, h, getLsbD_crcBit_top]
  have hrest : c >>> 1 = d >>> 1 := by
    unfold crcBit at h
    rw [hlow] at h
    split at h
    · exact (BitVec.xor_left_inj _).mp h
    · exact h
  refine BitVec.eq_of_getLsbD_eq fun i _ => ?_
  cases i with
  | zero => exact hlow
  | succ i =>
    have hbit := congrArg (BitVec.getLsbD · i) hrest
    simpa [BitVec.getLsbD_ushiftRight, Nat.add_comm] using hbit

theorem crcBits_injective (n : Nat) {c d : Word} (h : crcBits n c = crcBits n d) : c = d := by
  induction n generalizing c d with
  | zero => exact h
  | succ n ih => exact crcBit_injective (ih h)

theorem crcByte_injective_register {c d : Word} {x : Byte} (h : crcByte c x = crcByte d x) : c = d :=
  (BitVec.xor_left_inj _).mp (crcBits_injective 8 h)

theorem crcByte_injective_byte {c : Word} {x y : Byte} (h : crcByte c x = crcByte c y) : x = y := by
  have hwide : x.zeroExtend 32 = y.zeroExtend 32 := (BitVec.xor_right_inj _).mp (crcBits_injective 8 h)
  have hnarrow := congrArg (BitVec.setWidth 8) hwide
  simpa using hnarrow

theorem foldl_crcByte_injective (s : Bytes) {c d : Word} (h : s.foldl crcByte c = s.foldl crcByte d) : c = d := by
  induction s generalizing c d with
  | nil => exact h
  | cons x s ih => exact crcByte_injective_register (ih h)

/-- Changing one byte changes the CRC. -/
theorem crc32_set_ne {s : Bytes} {i : Nat} {b : Byte} (hi : i < s.length) (hne : b ≠ s.getD i 0) :
    crc32 (s.set i b) ≠ crc32 s := by
  have register (s : Bytes) (i : Nat) (hi : i < s.length) (hne : b ≠ s.getD i 0) (c : Word) :
      (s.set i b).foldl crcByte c ≠ s.foldl crcByte c := by
    induction s generalizing i c with
    | nil => cases hi
    | cons x s ih =>
      cases i with
      | zero => exact fun h => hne (crcByte_injective_byte (foldl_crcByte_injective s h))
      | succ i => exact ih i (Nat.lt_of_succ_lt_succ hi) hne _
  exact fun h => register s i hi hne _ ((BitVec.xor_left_inj _).mp h)

/-! ### The check of a region with one byte changed -/

theorem be32_injective {v w : Word} (h : be32 v = be32 w) : v = w := by
  rw [← rdBe32_be32_append v [], h, rdBe32_be32_append]

theorem flip_ne (b : Byte) {j : Nat} (hj : j < 8) : b ^^^ BitVec.ofNat 8 (2 ^ j) ≠ b := by
  have hbit : ∀ j < 8, BitVec.ofNat 8 (2 ^ j) ≠ 0 := by decide
  exact fun h => hbit j hj (by simpa using h)

/-- A byte changed in the CRC field no longer matches the CRC; one changed after it changes the CRC. -/
theorem crc_mismatch_of_set {region : Bytes} {i : Nat} {b : Byte} (hi : i < region.length) (hne : b ≠ region.getD i 0)
    (hvalid : region.take 4 = be32 (crc32 (region.drop 4))) :
    (region.set i b).take 4 ≠ be32 (crc32 ((region.set i b).drop 4)) := by
  intro hmatch
  by_cases hfield : i < 4
  · rw [List.drop_set_of_lt hfield, ← hvalid] at hmatch
    have hat := congrArg (List.getD · i 0) hmatch
    simp [hfield, hi] at hat hne
    exact hne hat
  · obtain ⟨k, rfl⟩ := Nat.exists_eq_add_of_le (Nat.le_of_not_lt hfield)
    rw [List.take_set_of_le (Nat.le_add_right 4 k), ← List.set_drop, hvalid] at hmatch
    refine crc32_set_ne (by simp; omega) ?_ (be32_injective hmatch).symm
    simpa using hne

/-- Settles O32: the flipped byte is another byte, so the check fails. -/
theorem crcDetectsEverySingleBitError : Obligations.CrcDetectsEverySingleBitError := by
  intro region i j s hlong hi hj hvalid
  have hmismatch := crc_mismatch_of_set hi (flip_ne (region.getD i 0) hj) hvalid
  refine (execCrcValidate_of_long (by rwa [List.length_set]) s).trans ?_
  rw [if_neg hmismatch]

end Sys2Proof.Machine
end

section
/-! # Frames there and back (43_frame_codec.md R191, R192, R201, R204, R207)

What the encoder writes passes the decoder's structural checks, its LEN_FLAGS byte reads back as written, and its body,
deciphered, is the plain body, whose CRC is right by construction. -/

namespace Sys2Proof.Machine

/-! ### The sub-packet count -/

theorem subpacketsFor_eq (len : Nat) : subpacketsFor len = (len + 19) / 16 := rfl

/-- Settles O33: `(len + 19) / 16` is the ceiling of `(len + 4) / 16`. -/
theorem subpacketCountIsTheSmallest : Obligations.SubpacketCountIsTheSmallest := by
  intro len hmin hmax
  rw [subpacketsFor_eq]
  refine ⟨by omega, by omega, by omega, fun n hn => by omega, by omega, fun k hk hk' => by omega⟩

/-- The sub-packet count of legal content. -/
theorem subpacketsFor_legal {content : Bytes} (hne : content ≠ []) (hle : content.length ≤ 268) :
    1 ≤ subpacketsFor content.length ∧ subpacketsFor content.length ≤ 17 := by
  have hpos := List.length_pos_iff.mpr hne
  rw [subpacketsFor_eq]
  omega

/-! ### The LEN_FLAGS byte (30_encoding.md R101) -/

theorem lenFlags_eq : ∀ n ≤ 17, ∀ e r : Bool,
    lenFlags n e r = BitVec.ofNat 8 ((n + if e then 64 else 0) + if r then 128 else 0) := by decide

theorem subpacketCount_lenFlags : ∀ n ≤ 17, ∀ e r : Bool, subpacketCount (lenFlags n e r) = n := by decide

theorem isEncrypted_lenFlags : ∀ n ≤ 17, ∀ e r : Bool, isEncrypted (lenFlags n e r) = e := by decide

/-! ### What the encoder returns -/

section
variable (s : State) (r : Bool) {content : Bytes}

theorem State.encodedFrame_eq (encrypt : Bool) :
    s.encodedFrame r encrypt content = startTag :: lenFlags (subpacketsFor content.length) encrypt r ::
      (if encrypt then s.encOutput (plainBody content) else plainBody content) := rfl

theorem execFrameEncode_of_illegal (encrypt : Bool) (h : contentFits content = false) :
    execFrameEncode r encrypt content s = .next (faulted .contentLength s) := by
  simp [execFrameEncode, h, State.raise_eq_faulted]

end

/-- Settles O37: both commands check the content first, SEND after the refused mode. -/
theorem illegalContentFaults : Obligations.IllegalContentFaults := fun r e _ s hillegal =>
  have hfits := contentFits_of_illegal hillegal
  ⟨execFrameEncode_of_illegal s r e hfits, fun hmode => execSend_of_illegal r hmode hfits⟩

/-- Settles O35: the plain body of the content, behind the tag and LEN_FLAGS. -/
theorem plainFrameEncodeBytes : Obligations.PlainFrameEncodeBytes := by
  rintro r content s n region hne hle rfl rfl
  obtain ⟨-, hmax⟩ := subpacketsFor_legal hne hle
  refine (execFrameEncode_of_fits r (encrypt := false) (contentFits_of_length hne hle) nofun).trans ?_
  rw [State.encodedFrame_eq, lenFlags_eq _ hmax]
  rfl

/-- Settles O36: the encrypt stream of that body, and the chain it leaves. -/
theorem encryptedFrameEncodeBytes : Obligations.EncryptedFrameEncodeBytes := by
  rintro r content s n region cs hready hne hle rfl rfl rfl
  obtain ⟨-, hmax⟩ := subpacketsFor_legal hne hle
  constructor
  · refine (execFrameEncode_of_fits r (contentFits_of_length hne hle) fun _ => hready).trans ?_
    rw [State.encodedFrame_eq, lenFlags_eq _ hmax]
    rfl
  · have hbody : (blocksOf (plainBody content)).length = (content.length + 4 + 15) / 16 := by
      rw [blocksOf_length, plainBody_length]
      omega
    exact (cbcEncrypt_length ..).trans hbody

/-! ### The round trip -/

theorem frameDefect_encodedFrame {content : Bytes} (hne : content ≠ []) (hle : content.length ≤ 268) (r e : Bool)
    (s : State) : frameDefect (s.encodedFrame r e content) = none := by
  obtain ⟨hmin, hmax⟩ := subpacketsFor_legal hne hle
  have hcount : subpacketCount ((s.encodedFrame r e content).getD 1 0) = subpacketsFor content.length :=
    subpacketCount_lenFlags _ hmax e r
  rw [frameDefect_eq_none, hcount]
  exact ⟨rfl, hmin, hmax, s.encodedFrame_length r e content⟩

theorem isEncrypted_encodedFrame {content : Bytes} (hne : content ≠ []) (hle : content.length ≤ 268) (r e : Bool)
    (s : State) : isEncrypted ((s.encodedFrame r e content).getD 1 0) = e :=
  isEncrypted_lenFlags _ (subpacketsFor_legal hne hle).2 e r

/-- The CRC of a plain body is the one of the region behind it. -/
theorem checkBody_plainBody (content : Bytes) : checkBody (plainBody content) = .ok (payloadRegion content) := by
  have hvalid : crcValid (plainBody content) = true := beq_iff_eq.mpr (rdBe32_be32_append _ _)
  rw [checkBody, if_pos hvalid]
  rfl

theorem payloadRegion_eq (content : Bytes) :
    payloadRegion content = content ++ zeros (16 * ((content.length + 19) / 16) - 4 - content.length) := rfl

/-- A receiver whose cipher stands where the sender's stood: it matters for an encrypted frame alone. -/
structure InStep (e : Bool) (sender receiver : State) : Prop where
  ready : e = true → receiver.ready = true
  key : e = true → receiver.key = sender.key
  chain : e = true → receiver.decChain = sender.encChain

section
variable {s u : State} {e : Bool} {content : Bytes} (hne : content ≠ []) (hle : content.length ≤ 268) (r : Bool)
  (hstep : InStep e s u)
include hne hle hstep

theorem plainOf_encodedFrame : u.plainOf (s.encodedFrame r e content) = plainBody content := by
  rw [State.plainOf, isEncrypted_encodedFrame hne hle]
  cases e with
  | false => rfl
  | true =>
    have haligned : (plainBody content).length % 16 = 0 := by rw [plainBody_length]; omega
    exact decOutput_encOutput haligned (hstep.key rfl) (hstep.chain rfl)

/-- R204: the receiver decodes the content and its padding. -/
theorem decodedFrame_encodedFrame :
    u.decodedFrame (s.encodedFrame r e content) = .ok (payloadRegion content) := by
  rw [State.decodedFrame_of_sound (frameDefect_encodedFrame hne hle r e s)
    (fun hencrypted => hstep.ready (by rwa [isEncrypted_encodedFrame hne hle] at hencrypted)),
    plainOf_encodedFrame hne hle r hstep, checkBody_plainBody]

/-- After an encrypted frame the receiver's chain is where the sender's is. -/
theorem afterDecode_encodedFrame_decChain (he : e = true) :
    (u.afterDecode (s.encodedFrame r e content)).decChain = (s.afterEncode e content).encChain := by
  have hmoves : u.afterDecode (s.encodedFrame r e content) =
      u.decAdvance ((s.encodedFrame r e content).drop hdrLen) := by
    rw [State.afterDecode, frameDefect_encodedFrame hne hle, isEncrypted_encodedFrame hne hle, he, hstep.ready he]
    rfl
  subst he
  rw [hmoves]
  exact decAdvance_encOutput_decChain (plainBody content) (hstep.chain rfl)

end

/-- Encoding leaves the decrypt chain where it was, so that a state with equal chains is in step with itself. -/
theorem InStep.afterEncode {e : Bool} {s : State} (content frame : Bytes)
    (h : e = true → s.ready = true ∧ s.decChain = s.encChain) :
    InStep e s (returned (.bytes frame) (s.afterEncode e content)) := by
  rw [afterEncode_eq]
  exact ⟨fun he => (h he).1, fun _ => rfl, fun he => (h he).2⟩

/-- FRAME_ENCODE of legal content with the cipher it needs: the frame returned, and the state it leaves. -/
theorem frameEncode_returned {r e : Bool} {content frame : Bytes} {s t : State} (hne : content ≠ [])
    (hle : content.length ≤ 268) (hready : e = true → s.ready = true)
    (hexec : exec (.frameEncode r e content) s = .next t) (hframe : t.result = some (.ok (.bytes frame))) :
    frame = s.encodedFrame r e content ∧ t = returned (.bytes frame) (s.afterEncode e content) := by
  obtain rfl := Host.Outcome.next.inj
    ((execFrameEncode_of_fits r (contentFits_of_length hne hle) hready).symm.trans hexec)
  obtain rfl : s.encodedFrame r e content = frame := by simpa [returned] using hframe
  exact ⟨rfl, rfl⟩

/-- Settles O39: the encoder leaves the decrypt chain where both were, so the state after it is in step. -/
theorem frameDecodeInvertsFrameEncode : Obligations.FrameDecodeInvertsFrameEncode := by
  intro r e content s t u frame hne hle hready hencode hframe hdecode
  obtain ⟨rfl, rfl⟩ := frameEncode_returned hne hle (fun he => (hready he).1) hencode hframe
  have hstep := InStep.afterEncode content (s.encodedFrame r e content) hready
  obtain rfl := Host.Outcome.next.inj ((exec_frameDecode _ _).symm.trans hdecode)
  refine ⟨?_, fun he => ?_⟩
  · rw [State.give_result, decodedFrame_encodedFrame hne hle r hstep, ← payloadRegion_eq]
    rfl
  · rw [State.give_decChain, afterDecode_encodedFrame_decChain hne hle r hstep he, State.give_encChain,
      afterDecode_eq]
    rfl

/-! ### The cipher before a successful init (70_reset_and_hazards.md R370) -/

/-- Settles O28: each of the five commands stops at its check of `ready`, which reset and SESSION_RESET leave false. -/
theorem cipherMisuseFaults : Obligations.CipherMisuseFaults :=
  ⟨fun _ hready => ⟨fun data => execCipherEncrypt_of_not_ready data hready,
      fun data => execCipherDecrypt_of_not_ready data hready,
      fun r _ hne hle => execFrameEncode_of_not_ready hready r (contentFits_of_length hne hle),
      fun o _ hcmp hecho => execAuthCheck_of_not_ready o hcmp hecho hready,
      fun r _ hmode hne hle hout => execSend_of_not_ready hready r hmode (contentFits_of_length hne hle) hout⟩,
    fun _ => rfl, fun _ _ => ready_of_execSessionReset⟩

end Sys2Proof.Machine
end

section
/-! # Runs of the reassembler (44_reassembler.md R231 to R239; 45_chunker.md R270)

`RxStep` acts on the arrived state alone. Within one notification all bytes arrive at one time, so from the second on
the arrival changes nothing, and a run is the steps of its states one after another. -/

namespace Sys2Proof.Machine

/-! ### Arrival -/

theorem rxStep_congr (b : Byte) {t : Nat} {s u : State} (h : arrive t s = arrive t u) :
    rxStep b t s = rxStep b t u := by
  rw [rxStep, rxStep, h]

theorem arrive_of_awaitTag {s : State} (h : s.rxState = .awaitTag) (t : Nat) :
    arrive t s = { s with lastByteTime := some t } := by
  rw [arrive, h, ite_self]

theorem arrive_of_same_time {s : State} {t : Nat} (h : s.lastByteTime = some t) : arrive t s = s := by
  have hfresh : isStale s.lastByteTime t = false := by simp [h, isStale]
  rw [arrive, hfresh, ← h]
  rfl

section
variable {b : Byte} {t : Nat} {s : State}

theorem rxStep_of_awaitTag (h : s.rxState = .awaitTag) :
    rxStep b t s = tagStep b { s with lastByteTime := some t } := by
  rw [rxStep, arrive_of_awaitTag h]
  dsimp only
  rw [h]

theorem rxStep_of_awaitLength (htime : s.lastByteTime = some t) (h : s.rxState = .awaitLength) :
    rxStep b t s = lengthStep b s := by
  rw [rxStep, arrive_of_same_time htime, h]

theorem rxStep_of_awaitData (htime : s.lastByteTime = some t) (h : s.rxState = .awaitData) :
    rxStep b t s = dataStep b s := by
  rw [rxStep, arrive_of_same_time htime, h]

end

/-! ### Staleness -/

@[simp] theorem receiveFrame_lastByteTime (frame : Bytes) (s : State) :
    (s.receiveFrame frame).lastByteTime = s.lastByteTime := by
  obtain ⟨p, -, h⟩ | ⟨r, -, h⟩ := receiveFrame_cases frame s <;> simp [h, afterDecode_eq]

theorem rxStep_lastByteTime (b : Byte) (t : Nat) (s : State) : (rxStep b t s).lastByteTime = some t := by
  have harrive : (arrive t s).lastByteTime = some t := rfl
  obtain ⟨-, h⟩ | ⟨-, h⟩ | ⟨-, h⟩ := rxStep_cases b t s
  · rw [h, tagStep_eq, ← harrive]
    simp only [apply_ite State.lastByteTime, ite_self]
  · rw [h, lengthStep_eq, ← harrive]
  · rw [h, dataStep_eq, ← harrive]
    simp only [apply_ite State.lastByteTime, receiveFrame_lastByteTime, ite_self]

/-- Settles O44: the gap decides the arrived state, and that decides the step. -/
theorem staleByteRestartsInAwaitTag : Obligations.StaleByteRestartsInAwaitTag := by
  intro b t s
  refine ⟨fun l hlast hgap => ?_, fun l hlast hgap => ?_, fun hlast hstate u hexec => ?_, fun u hexec => ?_⟩
  · have hstale : isStale s.lastByteTime t = true := by simp [hlast, isStale, hgap]
    rw [exec_rxByte, exec_rxByte, rxStep_congr b (u := { s with rxState := .awaitTag }) (by simp [arrive, hstale])]
  · have hfresh : isStale s.lastByteTime t = false := by simp [hlast, isStale, hgap]
    have harrive : arrive t s = arrive t { s with lastByteTime := none } := by
      rw [arrive, hfresh]
      rfl
    rw [exec_rxByte, exec_rxByte, rxStep_congr b harrive]
  · cases hexec
    have hfresh : (arrive t s).rxState = .awaitLength := by simp [arrive, hlast, hstate, isStale]
    have hstep : rxStep b t s = lengthStep b (arrive t s) := by rw [rxStep, hfresh]
    rw [hstep, lengthStep_eq]
    exact ⟨rfl, rfl⟩
  · cases hexec
    exact rxStep_lastByteTime b t s

/-! ### The watchdog -/

theorem rxStep_marker {s : State} (h : s.rxState = .awaitTag) (t : Nat) :
    rxStep 0xAF t s =
      if s.wdCount + 1 > 1024 then
        { s with lastByteTime := some t, wdCount := 0, events := s.events ++ [.error 0x0200] }
      else { s with lastByteTime := some t, wdCount := s.wdCount + 1 } := by
  rw [rxStep_of_awaitTag h, tagStep_eq, if_neg (by decide), if_pos rfl]

theorem rxSteps_append (a b : Bytes) (t : Nat) (s : State) : rxSteps (a ++ b) t s = rxSteps b t (rxSteps a t s) :=
  List.foldl_append

/-- Markers only count while the count stays within the limit. -/
theorem rxSteps_markers (n t : Nat) {s : State} (h : s.rxState = .awaitTag) (hcount : s.wdCount + (n + 1) ≤ 1024) :
    rxSteps (List.replicate (n + 1) 0xAF) t s =
      { s with lastByteTime := some t, wdCount := s.wdCount + (n + 1) } := by
  induction n with
  | zero => exact (rxStep_marker h t).trans (if_neg (by omega))
  | succ n ih =>
    rw [List.replicate_succ', rxSteps_append, ih (by omega)]
    exact (rxStep_marker (s := { s with lastByteTime := some t, wdCount := s.wdCount + (n + 1) }) h t).trans
      (if_neg (by change ¬ s.wdCount + (n + 1) + 1 > 1024; omega))

/-- Settles O45: 1024 markers are counted, and the next one fires. -/
theorem watchdogFiresOnMarker1025 : Obligations.WatchdogFiresOnMarker1025 := by
  intro t s htag hzero
  have hcounted (n : Nat) (hmax : n + 1 ≤ 1024) : rxSteps (List.replicate (n + 1) 0xAF) t s =
      { s with lastByteTime := some t, wdCount := n + 1 } := by
    rw [rxSteps_markers n t htag (by omega), hzero, Nat.zero_add]
  constructor
  · intro n hmin hmax
    obtain ⟨m, rfl⟩ := Nat.exists_eq_add_of_le' hmin
    rw [exec_bleNotify, hcounted m hmax]
  · have hlast : rxSteps (List.replicate (1024 + 1) 0xAF) t s =
        rxStep 0xAF t { s with lastByteTime := some t, wdCount := 1023 + 1 } := by
      rw [List.replicate_succ', rxSteps_append, hcounted 1023 le_rfl]
      rfl
    rw [exec_bleNotify, hlast, rxStep_marker (s := { s with lastByteTime := some t, wdCount := 1023 + 1 }) htag,
      if_pos (by simp)]

/-! ### A whole frame in one notification -/

/-- The state in the middle of a frame whose bytes all arrive at `t`: `stored` received, and room for `left` more. -/
def State.assembling (stored : Bytes) (left t : Nat) (s : State) : State :=
  { s with
    lastByteTime := some t, rxState := .awaitData, rxPos := stored.length, rxTarget := stored.length + left
    rxBuf := stored ++ zeros left, wdCount := countAfterOther s }

/-- The state in which a frame whose bytes all arrived at `t` is dispatched. -/
def State.assembled (frame : Bytes) (t : Nat) (s : State) : State :=
  { s with
    lastByteTime := some t, rxState := .awaitTag, rxPos := frame.length, rxTarget := frame.length
    rxBuf := frame, wdCount := countAfterOther s }

/-- Under `Consecutive` the count is 0 after the first other byte, and under `Cumulative` it stays. -/
theorem countAfterOther_idem {s u : State} (hcount : u.wdCount = countAfterOther s) (hconfig : u.config = s.config) :
    countAfterOther u = countAfterOther s := by
  rw [countAfterOther, hcount, hconfig, countAfterOther]
  split <;> rfl

section
variable (t : Nat) (s : State)

theorem countAfterOther_assembling (stored : Bytes) (left : Nat) :
    countAfterOther (s.assembling stored left t) = countAfterOther s := countAfterOther_idem rfl rfl

theorem rxStep_tag (h : s.rxState = .awaitTag) :
    rxStep 0x55 t s =
      { s with lastByteTime := some t, rxState := .awaitLength, wdCount := countAfterOther s } := by
  rw [rxStep_of_awaitTag h, tagStep_eq, if_pos rfl]
  rfl

theorem rxStep_length (lb : Byte) :
    rxStep lb t { s with lastByteTime := some t, rxState := .awaitLength, wdCount := countAfterOther s } =
      s.assembling [0x55, lb] (16 * (lb &&& 0x3F).toNat) t := by
  have hcount : countAfterOther
      { s with lastByteTime := some t, rxState := .awaitLength, wdCount := countAfterOther s } = countAfterOther s :=
    countAfterOther_idem rfl rfl
  rw [rxStep_of_awaitLength rfl rfl, lengthStep_eq, hcount, Nat.mul_comm, Nat.add_comm]
  rfl

/-- The tag and a length byte start a frame of the length it announces. -/
theorem rxSteps_header (lb : Byte) (rest : Bytes) (h : s.rxState = .awaitTag) :
    rxSteps (0x55 :: lb :: rest) t s =
      rxSteps rest t (s.assembling [0x55, lb] (16 * (lb &&& 0x3F).toNat) t) := by
  rw [rxSteps_cons, rxSteps_cons, rxStep_tag t s h, rxStep_length]

@[simp] theorem assembling_rxPos (stored : Bytes) (left : Nat) :
    (s.assembling stored left t).rxPos = stored.length := rfl

@[simp] theorem assembling_rxTarget (stored : Bytes) (left : Nat) :
    (s.assembling stored left t).rxTarget = stored.length + left := rfl

theorem assembling_rxBuf_set (b : Byte) (stored : Bytes) (left : Nat) :
    (s.assembling stored (left + 1) t).rxBuf.set (s.assembling stored (left + 1) t).rxPos b =
      stored ++ [b] ++ zeros left := by
  simp [State.assembling, zeros, List.replicate_succ]

theorem rxStep_assembling (b : Byte) (stored : Bytes) (left : Nat) :
    rxStep b t (s.assembling stored (left + 2) t) = s.assembling (stored ++ [b]) (left + 1) t := by
  have htarget : stored.length + (left + 2) = (stored ++ [b]).length + (left + 1) := by simp; omega
  rw [rxStep_of_awaitData rfl rfl, dataStep_eq, if_neg (by simp), if_neg (by simp), assembling_rxBuf_set,
    countAfterOther_assembling, State.assembling, State.assembling, htarget, List.length_append]
  rfl

theorem rxStep_assembling_last (b : Byte) (stored : Bytes) :
    rxStep b t (s.assembling stored 1 t) =
      (s.assembled (stored ++ [b]) t).receiveFrame (stored ++ [b]) := by
  have hstored : stored ++ [b] ++ zeros 0 = stored ++ [b] := List.append_nil _
  rw [rxStep_of_awaitData rfl rfl, dataStep_eq, if_neg (by simp), if_pos (by simp), assembling_rxBuf_set, hstored,
    countAfterOther_assembling, State.assembling, State.assembled, List.length_append]
  rfl

/-- Exactly as many bytes as there is room for complete the frame, which is then dispatched. -/
theorem rxSteps_assembling (b : Byte) (rest stored : Bytes) :
    rxSteps (b :: rest) t (s.assembling stored (rest.length + 1) t) =
      (s.assembled (stored ++ b :: rest) t).receiveFrame (stored ++ b :: rest) := by
  induction rest generalizing b stored with
  | nil => exact rxStep_assembling_last t s b stored
  | cons c rest ih =>
    rw [rxSteps_cons, List.length_cons, rxStep_assembling, ih, List.append_assoc]
    rfl

theorem rxSteps_frame {lb : Byte} {body : Bytes} (htag : s.rxState = .awaitTag) (hn : 1 ≤ (lb &&& 0x3F).toNat)
    (hlength : body.length = 16 * (lb &&& 0x3F).toNat) :
    rxSteps (0x55 :: lb :: body) t s =
      (s.assembled (0x55 :: lb :: body) t).receiveFrame (0x55 :: lb :: body) := by
  obtain ⟨b, rest, rfl⟩ := List.exists_cons_of_length_pos (l := body) (by omega)
  rw [rxSteps_header t s lb _ htag, ← hlength]
  exact rxSteps_assembling t s b rest [0x55, lb]

/-- R234: with N = 0 there is no room, and the next byte is discarded. -/
theorem rxSteps_empty_frame {lb : Byte} (x : Byte) (htag : s.rxState = .awaitTag) (hn : (lb &&& 0x3F).toNat = 0) :
    rxSteps [0x55, lb, x] t s = s.assembled [0x55, lb] t := by
  rw [rxSteps_header t s lb _ htag, hn, rxSteps_cons, rxStep_of_awaitData rfl rfl, dataStep_eq, if_pos (by simp),
    countAfterOther_assembling]
  rfl

end

/-- Settles O43: the header makes room for the body, whose bytes then fill it. -/
theorem wholeFrameIsDispatchedOnce : Obligations.WholeFrameIsDispatchedOnce := by
  constructor
  · intro lb x t s htag hn
    rw [exec_bleNotify, rxSteps_empty_frame t s x htag hn, State.assembled, ← htag]
    rfl
  · rintro lb body t n s htag rfl hn hlength
    rw [exec_bleNotify, rxSteps_frame t s htag hn hlength, State.assembled, ← htag, List.length_cons,
      List.length_cons, hlength]

/-! ### The loop back -/

theorem receiveFrame_of_ok {frame p : Bytes} {s : State} (h : s.decodedFrame frame = .ok p) :
    (s.receiveFrame frame).events = s.events ++ [.data p] ∧ (s.receiveFrame frame).rxState = s.rxState := by
  rw [State.receiveFrame, h]
  simp [afterDecode_eq]

/-- Settles O60: a plain frame is a header and its body, and decodes in any state. -/
theorem plainFrameLoopsBackAsData : Obligations.PlainFrameLoopsBackAsData := by
  intro r content frame time s t u htag hne hle hencode hframe hnotify
  obtain ⟨hbytes, rfl⟩ := frameEncode_returned (e := false) hne hle nofun hencode hframe
  obtain ⟨hmin, hmax⟩ := subpacketsFor_legal hne hle
  have hcount : (lenFlags (subpacketsFor content.length) false r &&& 0x3F).toNat = subpacketsFor content.length :=
    subpacketCount_lenFlags _ hmax false r
  have hreceived : rxSteps frame time (returned (.bytes frame) s) =
      ((returned (.bytes frame) s).assembled frame time).receiveFrame frame := by
    rw [hbytes]
    exact rxSteps_frame time _ htag (by rwa [hcount])
      (by rw [if_neg Bool.false_ne_true, plainBody_length, hcount, subpacketsFor_eq])
  have hdecoded : ((returned (.bytes frame) s).assembled frame time).decodedFrame frame =
      .ok (payloadRegion content) := by
    rw [hbytes]
    exact decodedFrame_encodedFrame hne hle r ⟨nofun, nofun, nofun⟩
  obtain ⟨hevents, hstate⟩ := receiveFrame_of_ok hdecoded
  obtain rfl := Host.Outcome.next.inj ((exec_bleNotify frame time _).symm.trans hnotify)
  change (rxSteps frame time (returned (.bytes frame) s)).events = _ ∧
    (rxSteps frame time (returned (.bytes frame) s)).rxState = _
  rw [hreceived]
  exact ⟨hevents, hstate⟩

end Sys2Proof.Machine
end

section
/-! # TX_WRITE (45_chunker.md R260 to R265, R272)

The length of a BLE write decides its form, and each form has one equation for the command. -/

namespace Sys2Proof.Machine

/-! ### The form of a write -/

theorem writeForm_body {n : Nat} (h : 1 ≤ n) : writeForm (16 * n) = .body := by
  rw [writeForm, hdrLen, if_neg (by omega), if_pos (by omega)]

theorem writeForm_frame {n : Nat} (h : 1 ≤ n) : writeForm (2 + 16 * n) = .frame := by
  rw [writeForm, hdrLen, if_neg (by omega), if_neg (by omega), if_pos (by omega)]

theorem writeForm_bad {n : Nat} (h : n = 0 ∨ n = 1 ∨ (2 < n ∧ n < 16) ∨ (n % 16 ≠ 0 ∧ n % 16 ≠ 2)) :
    writeForm n = .bad := by
  rw [writeForm, hdrLen, if_neg (by omega), if_neg (by omega), if_neg (by omega)]

/-- A length of 2 more than whole pieces is a header or a frame. -/
theorem writeForm_of_mod_two {n : Nat} (h : n % 16 = 2) : writeForm n = .header ∨ writeForm n = .frame := by
  by_cases hheader : n = 2
  · exact .inl (by rw [hheader]; rfl)
  · refine .inr ?_
    rw [writeForm, if_neg hheader, if_neg (by omega), if_pos (by omega)]

/-! ### The command, form by form -/

section
variable {s : State} {w : Bytes}

theorem execTxWrite_of_special (w : Bytes) (h : s.config.specialChunkingMode = true) :
    execTxWrite w s = .next (faulted .refused s) := by
  rw [execTxWrite, if_pos h, State.raise_eq_faulted]

theorem execTxWrite_of_spp (w : Bytes) (hbackend : s.config.backend = .spp)
    (hmode : s.config.specialChunkingMode = false) : execTxWrite w s = .next (txWriteSpp w s) := by
  simp only [execTxWrite, hmode, hbackend, if_neg Bool.false_ne_true]

theorem txWriteSpp_eq (w : Bytes) (s : State) :
    txWriteSpp w s = if w = [] then faulted .badWriteLength s else returned (.bytes []) (queuedAndIssued [w] s) := by
  simp only [txWriteSpp, List.length_eq_zero_iff, State.raise_eq_faulted, sendUnits_eq]

theorem execTxWrite_of_ble (w : Bytes) (hbackend : s.config.backend = .ble)
    (hmode : s.config.specialChunkingMode = false) : execTxWrite w s = .next (txWriteBle w s) := by
  simp only [execTxWrite, hmode, hbackend, if_neg Bool.false_ne_true]

theorem txWriteBle_of_header (hform : writeForm w.length = .header) (hheader : s.hdrBuf = none) :
    txWriteBle w s = ({ s with hdrBuf := some (headerOf w) } : State).sendUnits [] := by
  rw [txWriteBle, hform, hheader]
  rfl

theorem txWriteBle_of_body (hform : writeForm w.length = .body) :
    txWriteBle w s = ({ s with hdrBuf := none } : State).sendUnits (units s.hdrBuf w) := by
  rw [txWriteBle, hform]

theorem txWriteBle_of_frame (hform : writeForm w.length = .frame) (hheader : s.hdrBuf = none) :
    txWriteBle w s = s.sendUnits (units (some (headerOf w)) (w.drop hdrLen)) := by
  rw [txWriteBle, hform, hheader]
  rfl

theorem txWriteBle_of_bad (hform : writeForm w.length = .bad) : txWriteBle w s = faulted .badWriteLength s := by
  rw [txWriteBle, hform, ← State.raise_eq_faulted]

theorem txWriteBle_of_pending (hform : writeForm w.length = .header ∨ writeForm w.length = .frame)
    (hheader : s.hdrBuf ≠ none) : txWriteBle w s = faulted .headerPending s := by
  have hsome : s.hdrBuf.isSome = true := Option.isSome_iff_ne_none.mpr hheader
  obtain hform | hform := hform <;> simp only [txWriteBle, hform, hsome, if_true, State.raise_eq_faulted]

end

/-- Settles O48. -/
theorem sppWriteIsOneUnit : Obligations.SppWriteIsOneUnit := fun w s hbackend hmode =>
  (execTxWrite_of_spp w hbackend hmode).trans (congrArg _ (txWriteSpp_eq w s))

/-- Settles O46: the units of the frame behind its header are the slices R260 names. -/
theorem txWriteQueuesFrameUnits : Obligations.TxWriteQueuesFrameUnits := by
  intro w n s hbackend hmode hheader hn hlength
  refine (execTxWrite_of_ble w hbackend hmode).trans (congrArg _ ?_)
  rw [txWriteBle_of_frame (hlength ▸ writeForm_frame hn) hheader, units_eq_bleUnits hlength (by omega), sendUnits_eq]

/-- Settles O49: the refused mode first, then the form of the length, then the buffered header. -/
theorem chunkerFaults : Obligations.ChunkerFaults := by
  refine fun s => ⟨decode_txWrite, fun hmode r w => ⟨execTxWrite_of_special w hmode, execSend_of_special r w hmode⟩,
    fun hmode hbackend => ⟨fun w hbad => ?_, fun hheader => ⟨fun w hmod => ?_, fun r content hne hle hready => ?_⟩⟩⟩
  · exact (execTxWrite_of_ble w hbackend hmode).trans (congrArg _ (txWriteBle_of_bad (writeForm_bad hbad)))
  · exact (execTxWrite_of_ble w hbackend hmode).trans
      (congrArg _ (txWriteBle_of_pending (writeForm_of_mod_two hmod) hheader))
  · exact execSend_of_header_pending r hmode (contentFits_of_length hne hle) hready hbackend hheader

/-! ### A header and then its body -/

theorem queuedAndIssued_returned (us : List Bytes) (v : Value) (s : State) :
    queuedAndIssued us (returned v s) = returned v (queuedAndIssued us s) := by
  obtain ⟨hidle, hissue⟩ | ⟨u, rest, hfree, hunits, hissue⟩ := issue_cases (s.enqueue us)
  · rw [queuedAndIssued_of_idle (s := s) hidle, queuedAndIssued_of_idle (s := returned v s) hidle]
    rfl
  · rw [queuedAndIssued_of_free (s := s) hfree hunits, queuedAndIssued_of_free (s := returned v s) hfree hunits]
    rfl

/-- The result of the write before is overwritten. -/
theorem sendUnits_returned (us : List Bytes) (v : Value) (s : State) :
    (returned v s).sendUnits us = s.sendUnits us := by
  rw [sendUnits_eq, sendUnits_eq, queuedAndIssued_returned, returned_returned]

theorem queuedAndIssued_nil {s : State} (h : s.txQueue = [] ∨ s.inFlight = true) : queuedAndIssued [] s = s := by
  rw [queuedAndIssued_of_idle (by simpa using h.symm), enqueue_nil]

theorem units_none (body : Bytes) : units none body = chunks16 body := rfl

/-- Settles O47: the buffered header stands before the body's first piece, as it does in the whole frame. -/
theorem headerThenBodyEqualsWholeFrame : Obligations.HeaderThenBodyEqualsWholeFrame := by
  intro h0 h1 body n s t hbackend hmode hheader hidle hn hlength
  have hbody : writeForm body.length = .body := hlength ▸ writeForm_body hn
  have hframe : writeForm (h0 :: h1 :: body).length = .frame := by
    have hsum : (h0 :: h1 :: body).length = 2 + 16 * n := by simp [hlength]; omega
    rw [hsum, writeForm_frame hn]
  have hfirst : exec (.txWrite [h0, h1]) s = .next (returned (.bytes []) { s with hdrBuf := some (h0, h1) }) := by
    refine (execTxWrite_of_ble _ hbackend hmode).trans (congrArg _ ?_)
    rw [txWriteBle_of_header rfl hheader, sendUnits_eq, queuedAndIssued_nil (by exact hidle)]
    rfl
  refine ⟨hfirst, fun ht => ?_, ?_⟩
  · obtain rfl := Host.Outcome.next.inj (hfirst.symm.trans ht)
    have hcleared : ({ returned (.bytes []) { s with hdrBuf := some (h0, h1) } with hdrBuf := none } : State) =
        returned (.bytes []) s := by rw [← hheader]; rfl
    calc exec (.txWrite body) (returned (.bytes []) { s with hdrBuf := some (h0, h1) })
        = .next ((returned (.bytes []) s).sendUnits (units (some (h0, h1)) body)) := by
          refine (execTxWrite_of_ble (s := returned (.bytes []) { s with hdrBuf := some (h0, h1) }) _ hbackend
            hmode).trans (congrArg _ ?_)
          rw [txWriteBle_of_body hbody, hcleared]
          rfl
      _ = .next (txWriteBle (h0 :: h1 :: body) s) := by
          rw [sendUnits_returned, txWriteBle_of_frame hframe hheader]
          rfl
      _ = exec (.txWrite (h0 :: h1 :: body)) s := (execTxWrite_of_ble _ hbackend hmode).symm
  · have hpieces : chunks16 body = (List.range n).map fun k => (body.drop (16 * k)).take 16 := by
      rw [chunks16, hlength, Nat.mul_div_cancel_left n (by decide), pieces_eq_map]
    have hcleared : ({ s with hdrBuf := none } : State) = s := by rw [← hheader]
    refine (execTxWrite_of_ble _ hbackend hmode).trans (congrArg _ ?_)
    rw [txWriteBle_of_body hbody, hcleared, hheader, units_none, hpieces, sendUnits_eq]

end Sys2Proof.Machine
end

section
/-! # What a command can do

`Runs s i t` lists the ways a command `i` takes `s` to `t`, each with the state it leaves in terms of the shared
operations. `exec_runs` shows once that every command does one of them; what holds of each way holds of every
command. -/

namespace Sys2Proof.Machine

/-! ### The units a command queues -/

theorem mem_chunks16_length {body : Bytes} (h : body.length % 16 = 0) : ∀ u ∈ chunks16 body, u.length = 16 :=
  mem_pieces_length _ body (by omega)

/-- R260: a BLE unit is a piece of the body, the first one behind the header if there is one. -/
theorem units_legal (header : Option (Byte × Byte)) {body : Bytes} (h : body.length % 16 = 0) :
    ∀ u ∈ units header body, LegalEvent .ble (.txUnit u) := by
  have hpieces := mem_chunks16_length h
  intro u hu
  unfold units at hu
  split at hu
  next h0 h1 piece rest hsplit =>
    rw [hsplit] at hpieces
    rcases List.mem_cons.mp hu with rfl | hrest
    · exact .inr (by simp [hpieces piece (by simp)])
    · exact .inl (hpieces u (List.mem_cons_of_mem _ hrest))
  next => exact .inl (hpieces u hu)

theorem frameUnits_encodedFrame_legal (r : Bool) (content : Bytes) (s : State) :
    ∀ u ∈ frameUnits s.config.backend (s.encodedFrame r s.encOut content),
      LegalEvent s.config.backend (.txUnit u) := by
  have hlength := s.encodedFrame_length r s.encOut content
  cases s.config.backend with
  | ble => exact units_legal _ (by rw [List.length_drop, hlength, hdrLen]; omega)
  | spp =>
    intro u hu
    rw [List.mem_singleton.mp hu]
    exact List.cons_ne_nil _ _

theorem mod_of_writeForm_body {n : Nat} (h : writeForm n = .body) : n % 16 = 0 := by
  rw [writeForm] at h
  split_ifs at h with _ hbody
  exact hbody.2

theorem mod_of_writeForm_frame {n : Nat} (h : writeForm n = .frame) : 18 ≤ n ∧ n % 16 = 2 := by
  rw [writeForm] at h
  split_ifs at h with _ _ hframe
  exact hframe

/-! ### Opcodes -/

@[simp] theorem opcode_cipherInit (key : Bytes) : opcode (.cipherInit key) = 0x01 := by simp [opcode, encodeWord]
@[simp] theorem opcode_cipherEncrypt (data : Bytes) : opcode (.cipherEncrypt data) = 0x02 := by
  simp [opcode, encodeWord]
@[simp] theorem opcode_cipherDecrypt (data : Bytes) : opcode (.cipherDecrypt data) = 0x03 := by
  simp [opcode, encodeWord]
@[simp] theorem opcode_cipherIsReady : opcode .cipherIsReady = 0x04 := by simp [opcode, encodeWord]
@[simp] theorem opcode_crc32 (data : Bytes) : opcode (.crc32 data) = 0x10 := by simp [opcode, encodeWord]
@[simp] theorem opcode_crcStamp (region : Bytes) : opcode (.crcStamp region) = 0x11 := by simp [opcode, encodeWord]
@[simp] theorem opcode_crcValidate (region : Bytes) : opcode (.crcValidate region) = 0x12 := by
  simp [opcode, encodeWord]
@[simp] theorem opcode_packetBuild (cmd : Byte) (param : Option Byte) (data : Bytes) :
    opcode (.packetBuild cmd param data) = 0x20 := by
  cases param <;> simp [opcode, encodeWord, modifier]
@[simp] theorem opcode_frameEncode (r e : Bool) (content : Bytes) : opcode (.frameEncode r e content) = 0x21 := by
  cases r <;> cases e <;> simp [opcode, encodeWord, modifier]
@[simp] theorem opcode_frameDecode (frame : Bytes) : opcode (.frameDecode frame) = 0x22 := by simp [opcode, encodeWord]
@[simp] theorem opcode_rxByte (b : Byte) (t : Nat) : opcode (.rxByte b t) = 0x30 := by simp [opcode, encodeWord]
@[simp] theorem opcode_txWrite (w : Bytes) : opcode (.txWrite w) = 0x40 := by simp [opcode, encodeWord]
@[simp] theorem opcode_txWriteDone (success : Bool) : opcode (.txWriteDone success) = 0x41 := by
  cases success <;> simp [opcode, encodeWord, modifier]
@[simp] theorem opcode_bleNotify (value : Bytes) (t : Nat) : opcode (.bleNotify value t) = 0x42 := by
  simp [opcode, encodeWord]
@[simp] theorem opcode_authBuild (key : Bytes) (f : Byte) : opcode (.authBuild key f) = 0x50 := by
  simp [opcode, encodeWord]
@[simp] theorem opcode_authCheck (o : Bool) (echo : Bytes) : opcode (.authCheck o echo) = 0x51 := by
  cases o <;> simp [opcode, encodeWord, modifier]
@[simp] theorem opcode_send (r : Bool) (content : Bytes) : opcode (.send r content) = 0x52 := by
  cases r <;> simp [opcode, encodeWord, modifier]
@[simp] theorem opcode_sessionReset : opcode .sessionReset = 0x53 := by simp [opcode, encodeWord]
@[simp] theorem opcode_rxFrame (frame : Bytes) : opcode (.rxFrame frame) = 0x54 := by simp [opcode, encodeWord]

/-! ### The ways a command runs -/

/-- The ways a command takes `s` to another state. -/
inductive Runs (s : State) : Instr → State → Prop where
  /-- It raises a fault; a completion does so only with no unit in flight (45_chunker.md R266). -/
  | faults {i : Instr} (k : FaultKind) (hcredit : opcode i = 0x41 → s.inFlight = false) : Runs s i (faulted k s)
  /-- It answers and changes nothing, which a completion never does. -/
  | answers {i : Instr} (v : Value) (hi : opcode i ≠ 0x41) : Runs s i (returned v s)
  /-- It refuses a key (41_cipher.md R143). -/
  | refusesKey {i : Instr} (hi : opcode i ∈ ([0x01, 0x50] : List Byte)) : Runs s i s.badKey
  | inits (key : Bytes) (k : Block) (v : Value) :
      Runs s (.cipherInit key) (returned v ((drawsTaken 1 s).seed k (drawAt s 0)))
  | encrypts (data : Bytes) (v : Value) : Runs s (.cipherEncrypt data) (returned v (s.encAdvance data))
  | decrypts (data : Bytes) (v : Value) : Runs s (.cipherDecrypt data) (returned v (s.decAdvance data))
  | encodes (r e : Bool) (content : Bytes) (v : Value) :
      Runs s (.frameEncode r e content) (returned v (s.afterEncode e content))
  | decodes (frame : Bytes) :
      Runs s (.frameDecode frame) ((s.afterDecode frame).give (decodeResult (s.decodedFrame frame)))
  | receivesByte (b : Byte) (t : Nat) : Runs s (.rxByte b t) (returned (.bytes []) (rxStep b t s))
  | receivesBytes (value : Bytes) (t : Nat) : Runs s (.bleNotify value t) (returned (.bytes []) (rxSteps value t s))
  | receivesFrame (frame : Bytes) : Runs s (.rxFrame frame) (returned (.bytes []) (s.receiveFrame frame))
  /-- It queues legal units; only BLE touches the buffered header (45_chunker.md R262). -/
  | writes (w : Bytes) {header : Option (Byte × Byte)} {us : List Bytes}
      (hunits : ∀ u ∈ us, LegalEvent s.config.backend (.txUnit u))
      (hheader : s.config.backend = .spp → header = s.hdrBuf) :
      Runs s (.txWrite w) (returned (.bytes []) (queuedAndIssued us { s with hdrBuf := header }))
  | completes (hflight : s.inFlight = true) :
      Runs s (.txWriteDone true) (returned (.bytes []) (queuedAndIssued [] { s with inFlight := false }))
  | fails (hflight : s.inFlight = true) :
      Runs s (.txWriteDone false) (returned (.bytes [])
        { s with inFlight := false, txQueue := [], hdrBuf := none, events := s.events ++ [.error writeFailedCode] })
  | builds (key : Bytes) (enableFlag : Byte) (k : Block) (v : Value) :
      Runs s (.authBuild key enableFlag) (returned v (s.authBuilt k))
  | accepts (o : Bool) (echo : Bytes) (v : Value) (hchallenge : s.cmpValid = true) :
      Runs s (.authCheck o echo) (returned v { s.decAdvance echo with encOut := o, authOk := true })
  | rejects (o : Bool) (echo : Bytes) (v : Value) :
      Runs s (.authCheck o echo) (returned v { s.decAdvance echo with authOk := false })
  | sends (r : Bool) (content : Bytes) {us : List Bytes} (hunits : ∀ u ∈ us, LegalEvent s.config.backend (.txUnit u)) :
      Runs s (.send r content) (returned (.bytes []) (queuedAndIssued us (s.afterEncode s.encOut content)))
  | resets : Runs s .sessionReset (returned (.bytes []) s.sessionCleared)

/-- An answer is a state a command can run to. -/
def AnswersRun (s : State) (i : Instr) (a : Answer) : Prop := ∃ t, a = .next t ∧ Runs s i t

section
variable {s : State} {i : Instr}

theorem Runs.answersRun {t : State} (h : Runs s i t) : AnswersRun s i (.next t) := ⟨t, rfl, h⟩

theorem AnswersRun.fault (k : FaultKind) (hi : opcode i ≠ 0x41 := by simp) : AnswersRun s i (.next (faulted k s)) :=
  (Runs.faults k fun h => absurd h hi).answersRun

theorem AnswersRun.raise (k : FaultKind) (hi : opcode i ≠ 0x41 := by simp) : AnswersRun s i (.next (s.raise k)) :=
  s.raise_eq_faulted k ▸ .fault k hi

/-- A precondition checked first. -/
theorem AnswersRun.check {a : Answer} {c : Prop} {_ : Decidable c} {k : FaultKind} (rest : AnswersRun s i a)
    (hi : opcode i ≠ 0x41 := by simp) : AnswersRun s i (if c then .next (s.raise k) else a) := by
  split
  · exact .raise k hi
  · exact rest

end

theorem execTxWrite_runs (w : Bytes) (s : State) : AnswersRun s (.txWrite w) (execTxWrite w s) := by
  cases hmode : s.config.specialChunkingMode with
  | true =>
    rw [execTxWrite_of_special w hmode]
    exact .fault _
  | false =>
    cases hbackend : s.config.backend with
    | spp =>
      rw [execTxWrite_of_spp w hbackend hmode, txWriteSpp_eq]
      split
      next => exact .fault _
      next hne => exact (Runs.writes w (by simpa [hbackend, LegalEvent] using hne) fun _ => rfl).answersRun
    | ble =>
      have hble {header : Option (Byte × Byte)} : s.config.backend = .spp → header = s.hdrBuf := by simp [hbackend]
      rw [execTxWrite_of_ble w hbackend hmode]
      cases hform : writeForm w.length with
      | bad =>
        rw [txWriteBle_of_bad hform]
        exact .fault _
      | body =>
        rw [txWriteBle_of_body hform, sendUnits_eq]
        refine (Runs.writes w ?_ hble).answersRun
        rw [hbackend]
        exact units_legal _ (mod_of_writeForm_body hform)
      | header =>
        by_cases hheader : s.hdrBuf = none
        · rw [txWriteBle_of_header hform hheader, sendUnits_eq]
          exact (Runs.writes w (List.forall_mem_nil _) hble).answersRun
        · rw [txWriteBle_of_pending (.inl hform) hheader]
          exact .fault _
      | frame =>
        by_cases hheader : s.hdrBuf = none
        · rw [txWriteBle_of_frame hform hheader, sendUnits_eq]
          refine (Runs.writes w ?_ fun _ => rfl).answersRun
          obtain ⟨hlong, hmod⟩ := mod_of_writeForm_frame hform
          rw [hbackend]
          exact units_legal _ (by rw [List.length_drop, hdrLen]; omega)
        · rw [txWriteBle_of_pending (.inr hform) hheader]
          exact .fault _

theorem execTxWriteDone_runs (success : Bool) (s : State) :
    AnswersRun s (.txWriteDone success) (execTxWriteDone success s) := by
  cases hflight : s.inFlight with
  | false =>
    rw [execTxWriteDone_of_free hflight]
    exact (Runs.faults _ fun _ => hflight).answersRun
  | true =>
    cases success with
    | true =>
      rw [execTxWriteDone_success hflight]
      exact (Runs.completes hflight).answersRun
    | false =>
      rw [execTxWriteDone_failure hflight, ← writeFailedCode_eq]
      exact (Runs.fails hflight).answersRun

theorem execCipherInit_runs (key : Bytes) (s : State) : AnswersRun s (.cipherInit key) (execCipherInit key s) := by
  by_cases hkey : key.length = 16
  · rw [execCipherInit_of_good_key hkey]
    exact (Runs.inits ..).answersRun
  · rw [execCipherInit_of_bad_key hkey]
    exact (Runs.refusesKey (by simp)).answersRun

theorem execAuthBuild_runs (key : Bytes) (enableFlag : Byte) (s : State) :
    AnswersRun s (.authBuild key enableFlag) (execAuthBuild key enableFlag s) := by
  by_cases hkey : key.length = 16
  · rw [execAuthBuild_of_good_key hkey]
    exact (Runs.builds ..).answersRun
  · rw [execAuthBuild_of_bad_key hkey]
    exact (Runs.refusesKey (by simp)).answersRun

theorem execAuthCheck_runs (o : Bool) (echo : Bytes) (s : State) :
    AnswersRun s (.authCheck o echo) (execAuthCheck o echo s) := by
  cases hcmp : s.cmpValid with
  | false =>
    rw [execAuthCheck_of_no_challenge o echo hcmp]
    exact .fault _
  | true =>
    unfold execAuthCheck
    refine .check ?_
    cases block16 echo with
    | none => exact .raise _
    | some e =>
      refine .check ?_
      split
      · exact (Runs.accepts o echo _ hcmp).answersRun
      · exact (Runs.rejects o echo _).answersRun

theorem execSend_runs (r : Bool) (content : Bytes) (s : State) :
    AnswersRun s (.send r content) (execSend r content s) := by
  unfold execSend
  refine .check (.check (.check (.check ?_)))
  rw [sendUnits_eq]
  exact (Runs.sends r content (frameUnits_encodedFrame_legal r content s)).answersRun

/-- Every command runs in one of these ways. -/
theorem exec_answersRun (i : Instr) (s : State) : AnswersRun s i (exec i s) := by
  cases i with
  | cipherInit key => exact execCipherInit_runs key s
  | cipherEncrypt data => exact .check (.check (Runs.encrypts ..).answersRun)
  | cipherDecrypt data => exact .check (.check (Runs.decrypts ..).answersRun)
  | cipherIsReady => exact (Runs.answers _ (by simp)).answersRun
  | crc32 data => exact (Runs.answers _ (by simp)).answersRun
  | crcStamp region => exact .check (Runs.answers _ (by simp)).answersRun
  | crcValidate region => exact .check (Runs.answers _ (by simp)).answersRun
  | packetBuild cmd param data => exact .check (Runs.answers _ (by simp)).answersRun
  | frameEncode r e content => exact .check (.check (Runs.encodes ..).answersRun)
  | frameDecode frame =>
    rw [exec_frameDecode]
    exact (Runs.decodes frame).answersRun
  | rxByte b t => exact (Runs.receivesByte b t).answersRun
  | txWrite w => exact execTxWrite_runs w s
  | txWriteDone success => exact execTxWriteDone_runs success s
  | bleNotify value t => exact (Runs.receivesBytes value t).answersRun
  | authBuild key enableFlag => exact execAuthBuild_runs key enableFlag s
  | authCheck o echo => exact execAuthCheck_runs o echo s
  | send r content => exact execSend_runs r content s
  | sessionReset => exact Runs.resets.answersRun
  | rxFrame frame => exact (Runs.receivesFrame frame).answersRun

theorem exec_runs {i : Instr} {s t : State} (h : exec i s = .next t) : Runs s i t := by
  obtain ⟨u, hu, hruns⟩ := exec_answersRun i s
  obtain rfl := Host.Outcome.next.inj (hu.symm.trans h)
  exact hruns

end Sys2Proof.Machine
end

section
/-! # What commands write and emit (10_state.md R22 to R40; 20_memory.md R77; 45_chunker.md R271 to R274)

The two operations with many branches, receiving and issuing, get a frame each: `receivedFrom` and `issuedFrom` name
the elements they may write, so that every other element is read off by `rfl`. -/

namespace Sys2Proof.Machine

/-! ### Frames -/

/-- `s` with what a received byte may write taken from `u`: the decrypt chain, the reassembler and the events. -/
def State.receivedFrom (s u : State) : State :=
  { s with
    decChain := u.decChain, rxState := u.rxState, rxPos := u.rxPos, rxTarget := u.rxTarget, rxBuf := u.rxBuf
    lastByteTime := u.lastByteTime, wdCount := u.wdCount, events := u.events }

theorem receiveFrame_eq_receivedFrom (frame : Bytes) (s : State) :
    s.receiveFrame frame = s.receivedFrom (s.receiveFrame frame) := by
  obtain ⟨p, -, h⟩ | ⟨r, -, h⟩ := receiveFrame_cases frame s <;> rw [h, afterDecode_eq] <;> rfl

theorem tagStep_eq_receivedFrom (b : Byte) (s : State) : tagStep b s = s.receivedFrom (tagStep b s) := by
  rw [tagStep_eq]
  split
  · rfl
  · split
    · split <;> rfl
    · rfl

theorem dataStep_eq_receivedFrom (b : Byte) (s : State) : dataStep b s = s.receivedFrom (dataStep b s) := by
  rw [dataStep_eq]
  split
  · rfl
  · split
    · rw [receiveFrame_eq_receivedFrom]
      rfl
    · rfl

theorem rxStep_eq_receivedFrom (b : Byte) (t : Nat) (s : State) : rxStep b t s = s.receivedFrom (rxStep b t s) := by
  obtain ⟨-, h⟩ | ⟨-, h⟩ | ⟨-, h⟩ := rxStep_cases b t s
  · rw [h, tagStep_eq_receivedFrom]
    rfl
  · rw [h, lengthStep_eq]
    rfl
  · rw [h, dataStep_eq_receivedFrom]
    rfl

theorem rxSteps_eq_receivedFrom (value : Bytes) (t : Nat) (s : State) :
    rxSteps value t s = s.receivedFrom (rxSteps value t s) := by
  induction value generalizing s with
  | nil => rfl
  | cons b value ih =>
    rw [rxSteps_cons, ih, rxStep_eq_receivedFrom]
    rfl

/-- `s` with the elements the issue step may write taken from `u`. -/
def State.issuedFrom (s u : State) : State :=
  { s with txQueue := u.txQueue, inFlight := u.inFlight, events := u.events }

/-- Queueing units either leaves them queued, or hands over the head and holds the credit (45_chunker.md R265). -/
theorem queuedAndIssued_cases (us : List Bytes) (s : State) :
    ((s.inFlight = true ∨ s.txQueue ++ us = []) ∧ queuedAndIssued us s = { s with txQueue := s.txQueue ++ us }) ∨
    ∃ u rest, s.inFlight = false ∧ s.txQueue ++ us = u :: rest ∧
      queuedAndIssued us s = { s with txQueue := rest, inFlight := true, events := s.events ++ [.txUnit u] } := by
  rw [← issue_enqueue]
  exact issue_cases (s.enqueue us)

theorem queuedAndIssued_eq_issuedFrom (us : List Bytes) (s : State) :
    queuedAndIssued us s = s.issuedFrom (queuedAndIssued us s) := by
  obtain ⟨-, h⟩ | ⟨u, rest, -, -, h⟩ := queuedAndIssued_cases us s <;> rw [h] <;> rfl

/-! ### Writers -/

/-- Each state element is unchanged, or the opcode is one of its writers' (10_state.md R22 to R38, R40). -/
def WritersOnly (op : Byte) (s t : State) : Prop :=
  t.config = s.config ∧ t.pending = s.pending ∧
  (t.key = s.key ∨ op ∈ ([0x01, 0x50] : List Byte)) ∧
  (t.ready = s.ready ∨ op ∈ ([0x01, 0x50, 0x53] : List Byte)) ∧
  (t.encChain = s.encChain ∨ op ∈ ([0x01, 0x02, 0x21, 0x50, 0x52] : List Byte)) ∧
  (t.decChain = s.decChain ∨ op ∈ ([0x01, 0x03, 0x22, 0x30, 0x42, 0x50, 0x51, 0x54] : List Byte)) ∧
  (t.iv = s.iv ∨ op ∈ ([0x01, 0x50] : List Byte)) ∧
  (t.cmp = s.cmp ∨ op ∈ ([0x50] : List Byte)) ∧
  (t.cmpValid = s.cmpValid ∨ op ∈ ([0x50, 0x53] : List Byte)) ∧
  (t.encOut = s.encOut ∨ op ∈ ([0x51, 0x53] : List Byte)) ∧
  (t.authOk = s.authOk ∨ op ∈ ([0x50, 0x51, 0x53] : List Byte)) ∧
  ((t.rxState = s.rxState ∧ t.rxPos = s.rxPos ∧ t.rxTarget = s.rxTarget ∧ t.rxBuf = s.rxBuf ∧
      t.lastByteTime = s.lastByteTime ∧ t.wdCount = s.wdCount) ∨ op ∈ ([0x30, 0x42, 0x53] : List Byte)) ∧
  (t.hdrBuf = s.hdrBuf ∨ op ∈ ([0x40, 0x41, 0x53] : List Byte)) ∧
  ((t.txQueue = s.txQueue ∧ t.inFlight = s.inFlight) ∨ op ∈ ([0x40, 0x41, 0x52, 0x53] : List Byte)) ∧
  ((t.entropy = s.entropy ∧ t.drawCount = s.drawCount) ∨ op ∈ ([0x01, 0x50] : List Byte))

theorem Runs.writersOnly {i : Instr} {s t : State} (h : Runs s i t) : WritersOnly (opcode i) s t := by
  cases h with
  | faults k hcredit => simp [WritersOnly, faulted]
  | answers v hi => simp [WritersOnly, returned]
  | refusesKey hi =>
    have hop : opcode i = 0x01 ∨ opcode i = 0x50 := by simpa using hi
    obtain hop | hop := hop <;> simp [WritersOnly, hop]
  | inits key k v => simp [WritersOnly, returned, drawsTaken]
  | encrypts data v => simp [WritersOnly, returned]
  | decrypts data v => simp [WritersOnly, returned]
  | encodes r e content v => simp [WritersOnly, returned, afterEncode_eq]
  | decodes frame => simp [WritersOnly, afterDecode_eq]
  | receivesByte b t =>
    rw [rxStep_eq_receivedFrom]
    simp [WritersOnly, returned, State.receivedFrom]
  | receivesBytes value t =>
    rw [rxSteps_eq_receivedFrom]
    simp [WritersOnly, returned, State.receivedFrom]
  | receivesFrame frame =>
    obtain ⟨p, -, h⟩ | ⟨r, -, h⟩ := receiveFrame_cases frame s <;>
      simp [WritersOnly, returned, h, afterDecode_eq]
  | writes w hunits hheader =>
    rw [queuedAndIssued_eq_issuedFrom]
    simp [WritersOnly, returned, State.issuedFrom]
  | completes hflight =>
    rw [queuedAndIssued_eq_issuedFrom]
    simp [WritersOnly, returned, State.issuedFrom]
  | fails hflight => simp [WritersOnly, returned]
  | builds key enableFlag k v => simp [WritersOnly, returned, authBuilt_eq, drawsTaken]
  | accepts o echo v hchallenge => simp [WritersOnly, returned]
  | rejects o echo v => simp [WritersOnly, returned]
  | sends r content hunits =>
    rw [queuedAndIssued_eq_issuedFrom, afterEncode_eq]
    simp [WritersOnly, returned, State.issuedFrom]
  | resets => simp [WritersOnly, returned, State.sessionCleared]

/-- Settles O11: by the ways a command runs. -/
theorem elementsHaveTheirWritersOnly : Obligations.ElementsHaveTheirWritersOnly :=
  fun _ _ _ hexec => (exec_runs hexec).writersOnly

/-! ### Events -/

/-- `t` has the events of `s` and at most `n` more, each with `P`. -/
def Emits (P : Event → Prop) (n : Nat) (s t : State) : Prop :=
  ∃ es, t.events = s.events ++ es ∧ es.length ≤ n ∧ ∀ e ∈ es, P e

section
variable {P Q : Event → Prop} {m n : Nat} {s u t : State}

theorem Emits.silent (h : t.events = s.events) : Emits P n s t :=
  ⟨[], by rw [h, List.append_nil], Nat.zero_le n, List.forall_mem_nil _⟩

theorem Emits.one {e : Event} (he : P e) (h : t.events = s.events ++ [e]) : Emits P 1 s t :=
  ⟨[e], h, le_rfl, by simpa using he⟩

theorem Emits.trans (h : Emits P m s u) (h' : Emits P n u t) : Emits P (m + n) s t := by
  obtain ⟨es, hes, hlen, hP⟩ := h
  obtain ⟨es', hes', hlen', hP'⟩ := h'
  refine ⟨es ++ es', by rw [hes', hes, List.append_assoc], by simp; omega, fun e he => ?_⟩
  exact (List.mem_append.mp he).elim (hP e) (hP' e)

theorem Emits.imp (h : Emits P n s t) (hPQ : ∀ e, P e → Q e) : Emits Q n s t := by
  obtain ⟨es, hes, hlen, hP⟩ := h
  exact ⟨es, hes, hlen, fun e he => hPQ e (hP e he)⟩

end

/-- What receiving may emit: the payload region of a sound frame, or the watchdog's error. -/
def ReceivedEvent : Event → Prop
  | .data p => ∃ n, 1 ≤ n ∧ n ≤ maxNAccept ∧ p.length = 16 * n - 4
  | .txUnit _ => False
  | .error c => c = watchdogCode

/-- A decoded payload is what stands behind the CRC in the plain body of a sound frame (43_frame_codec.md R203). -/
theorem payload_of_decodedFrame {frame p : Bytes} {s : State} (h : s.decodedFrame frame = .ok p) :
    frameDefect frame = none ∧ p = (s.plainOf frame).drop crcLen := by
  have hchecked (body : Bytes) (hbody : checkBody body = .ok p) : p = body.drop crcLen := by
    unfold checkBody at hbody
    split at hbody
    · exact (Except.ok.inj hbody).symm
    · cases hbody
  cases hsound : frameDefect frame with
  | some r => simp [State.decodedFrame, hsound] at h
  | none =>
    have hready : isEncrypted (frame.getD 1 0) = true → s.ready = true := by
      intro hencrypted
      by_contra hunready
      simp only [State.decodedFrame, hsound, hencrypted, hunready, if_true, if_false, reduceCtorEq] at h
    rw [State.decodedFrame_of_sound hsound hready] at h
    exact ⟨rfl, hchecked _ h⟩

theorem decodedFrame_legal {frame p : Bytes} {s : State} (h : s.decodedFrame frame = .ok p) :
    ReceivedEvent (.data p) := by
  obtain ⟨hsound, rfl⟩ := payload_of_decodedFrame h
  obtain ⟨-, hmin, hmax, hlength⟩ := (frameDefect_eq_none frame).mp hsound
  refine ⟨_, hmin, hmax, ?_⟩
  rw [List.length_drop, State.plainOf_length (n := subpacketCount (frame.getD 1 0)) (by simp [hlength])]

theorem receiveFrame_emits (frame : Bytes) (s : State) :
    Emits (fun e => ReceivedEvent e ∧ ∃ p, e = .data p) 1 s (s.receiveFrame frame) := by
  obtain ⟨p, hdecoded, h⟩ | ⟨r, -, h⟩ := receiveFrame_cases frame s
  · exact .one ⟨decodedFrame_legal hdecoded, p, rfl⟩ (by rw [h, State.emit_events, afterDecode_eq])
  · exact .silent (by rw [h, afterDecode_eq])

theorem tagStep_emits (b : Byte) (s : State) : Emits ReceivedEvent 1 s (tagStep b s) := by
  rw [tagStep_eq]
  split
  · exact .silent rfl
  · split
    · split
      · exact .one (e := .error 0x0200) watchdogCode_eq.symm rfl
      · exact .silent rfl
    · exact .silent rfl

theorem dataStep_emits (b : Byte) (s : State) : Emits ReceivedEvent 1 s (dataStep b s) := by
  rw [dataStep_eq]
  split
  · exact .silent rfl
  · split
    · exact (receiveFrame_emits _ _).imp fun _ => And.left
    · exact .silent rfl

theorem rxStep_emits (b : Byte) (t : Nat) (s : State) : Emits ReceivedEvent 1 s (rxStep b t s) := by
  obtain ⟨-, h⟩ | ⟨-, h⟩ | ⟨-, h⟩ := rxStep_cases b t s
  · exact h ▸ tagStep_emits b (arrive t s)
  · exact .silent (by rw [h, lengthStep_eq]; rfl)
  · exact h ▸ dataStep_emits b (arrive t s)

theorem rxSteps_emits (value : Bytes) (t : Nat) (s : State) :
    Emits ReceivedEvent value.length s (rxSteps value t s) := by
  induction value generalizing s with
  | nil => exact .silent rfl
  | cons b value ih =>
    rw [List.length_cons, Nat.add_comm]
    exact (rxStep_emits b t s).trans (ih _)

/-- The kinds of events the command family of an opcode emits (60_exceptions.md R331). -/
def FamilyEmits (op : Byte) : Event → Prop
  | .data _ => op ∈ ([0x30, 0x42, 0x54] : List Byte)
  | .txUnit _ => op ∈ ([0x40, 0x41, 0x52] : List Byte)
  | .error _ => op ∈ ([0x30, 0x41, 0x42] : List Byte)

/-- The queued units have the backend's form (45_chunker.md R261): `Inv.queueUnits`. -/
def QueueLegal (s : State) : Prop := ∀ u ∈ s.txQueue, LegalEvent s.config.backend (.txUnit u)

/-- An event that a command with opcode `op` may emit in `s`. -/
def EmittedBy (op : Byte) (s : State) (e : Event) : Prop :=
  FamilyEmits op e ∧ (QueueLegal s → LegalEvent s.config.backend e)

section
variable {op : Byte} {s : State} {e : Event}

theorem ReceivedEvent.legal (h : ReceivedEvent e) : LegalEvent s.config.backend e := by
  cases e with
  | data p => exact h
  | txUnit u => cases h
  | error c => exact .inl h

theorem ReceivedEvent.emittedBy (hop : op = 0x30 ∨ op = 0x42) (h : ReceivedEvent e) : EmittedBy op s e := by
  refine ⟨?_, fun _ => h.legal⟩
  cases e with
  | txUnit u => cases h
  | data p => obtain rfl | rfl := hop <;> simp [FamilyEmits]
  | error c => obtain rfl | rfl := hop <;> simp [FamilyEmits]

end

/-- Queueing legal units emits one of the queue's or one of them. -/
theorem queuedAndIssued_emittedBy {op : Byte} {us : List Bytes} {s u : State}
    (hop : op ∈ ([0x40, 0x41, 0x52] : List Byte)) (hunits : ∀ u ∈ us, LegalEvent s.config.backend (.txUnit u))
    (hevents : u.events = s.events) (hqueue : u.txQueue = s.txQueue) :
    Emits (EmittedBy op s) 1 s (queuedAndIssued us u) := by
  obtain ⟨-, h⟩ | ⟨head, rest, -, hsplit, h⟩ := queuedAndIssued_cases us u
  · exact .silent (by rw [h, ← hevents])
  · refine .one (e := .txUnit head) ⟨hop, fun hlegal => ?_⟩ (by rw [h, ← hevents])
    have hmem : head ∈ s.txQueue ++ us := by rw [← hqueue, hsplit]; exact List.mem_cons_self
    exact (List.mem_append.mp hmem).elim (hlegal head) (hunits head)

/-- Only BLE_NOTIFY may emit more than one event, and each is of the kinds its family emits and, when the queue is
legal, of the form the spec gives it. -/
theorem Runs.emits {i : Instr} {s t : State} (h : Runs s i t) :
    ∃ n, Emits (EmittedBy (opcode i) s) n s t ∧ (opcode i ≠ 0x42 → n ≤ 1) := by
  have atMostOne {t : State} {i : Instr} (h : Emits (EmittedBy (opcode i) s) 1 s t) :
      ∃ n, Emits (EmittedBy (opcode i) s) n s t ∧ (opcode i ≠ 0x42 → n ≤ 1) := ⟨1, h, fun _ => le_rfl⟩
  cases h with
  | receivesByte b t => exact atMostOne ((rxStep_emits b t s).imp fun _ => ReceivedEvent.emittedBy (by simp))
  | receivesBytes value t =>
    exact ⟨_, (rxSteps_emits value t s).imp fun _ => ReceivedEvent.emittedBy (by simp), fun hne => absurd (by simp) hne⟩
  | receivesFrame frame =>
    refine atMostOne ((receiveFrame_emits frame s).imp ?_)
    rintro _ ⟨hreceived, p, rfl⟩
    exact ⟨by simp [FamilyEmits], fun _ => hreceived.legal⟩
  | writes w hunits hheader => exact atMostOne (queuedAndIssued_emittedBy (by simp) hunits rfl rfl)
  | completes hflight => exact atMostOne (queuedAndIssued_emittedBy (by simp) (List.forall_mem_nil _) rfl rfl)
  | sends r content hunits =>
    rw [afterEncode_eq]
    exact atMostOne (queuedAndIssued_emittedBy (by simp) hunits rfl rfl)
  | fails hflight =>
    exact atMostOne (.one (e := .error writeFailedCode) ⟨by simp [FamilyEmits], fun _ => .inr rfl⟩ rfl)
  | encodes r e content v => exact atMostOne (.silent (by rw [afterEncode_eq]; rfl))
  | decodes frame => exact atMostOne (.silent (by rw [afterDecode_eq]; rfl))
  | builds key enableFlag k v => exact atMostOne (.silent (by rw [authBuilt_eq]; rfl))
  | _ => exact atMostOne (.silent rfl)

/-- Settles O12: by the ways a command runs. -/
theorem eventsAreAppendedByKind : Obligations.EventsAreAppendedByKind := by
  intro i s t hexec
  obtain ⟨n, ⟨es, hes, hlen, hkind⟩, hone⟩ := (exec_runs hexec).emits
  refine ⟨es, hes, fun hne => hlen.trans (hone hne), fun e he => ?_⟩
  obtain ⟨hfamily, -⟩ := hkind e he
  cases e <;> exact hfamily

/-! ### The credit and the order of the units -/

@[simp] theorem unitsOf_append (es es' : List Event) : unitsOf (es ++ es') = unitsOf es ++ unitsOf es' :=
  List.filterMap_append

@[simp] theorem unitsOf_txUnit (u : Bytes) : unitsOf [.txUnit u] = [u] := rfl

@[simp] theorem unitsOf_error (c : Half) : unitsOf [.error c] = [] := rfl

theorem unitCount_eq_length (es : List Event) : unitCount es = (unitsOf es).length := by
  induction es with
  | nil => rfl
  | cons e es ih => cases e <;> simp_all [unitCount, unitsOf]

/-- A command outside the chunker hands over nothing, and leaves the queue and the credit alone. -/
theorem Runs.chunker_idle {i : Instr} {s t : State} (h : Runs s i t)
    (hop : opcode i ∉ ([0x40, 0x41, 0x52, 0x53] : List Byte)) :
    t.txQueue = s.txQueue ∧ t.inFlight = s.inFlight ∧ unitsOf t.events = unitsOf s.events := by
  obtain ⟨-, -, -, -, -, -, -, -, -, -, -, -, -, hchunker, -⟩ := h.writersOnly
  obtain ⟨hqueue, hflight⟩ := hchunker.resolve_right hop
  obtain ⟨n, ⟨es, hes, -, hkind⟩, -⟩ := h.emits
  have hnone : unitsOf es = [] := List.filterMap_eq_nil_iff.mpr fun e he => by
    obtain ⟨hfamily, -⟩ := hkind e he
    cases e with
    | txUnit u =>
      have hwriter : opcode i ∈ ([0x40, 0x41, 0x52] : List Byte) := hfamily
      exact absurd (by simp at hwriter ⊢; tauto) hop
    | data p => rfl
    | error c => rfl
  exact ⟨hqueue, hflight, by rw [hes, unitsOf_append, hnone, List.append_nil]⟩

@[simp] theorem returned_txQueue (v : Value) (s : State) : (returned v s).txQueue = s.txQueue := rfl
@[simp] theorem returned_inFlight (v : Value) (s : State) : (returned v s).inFlight = s.inFlight := rfl
@[simp] theorem returned_events (v : Value) (s : State) : (returned v s).events = s.events := rfl

/-- Issuing moves the head of the queue to the end of what was handed over, and takes the credit for it. -/
theorem queuedAndIssued_balance (us : List Bytes) (s : State) :
    unitsOf (queuedAndIssued us s).events ++ (queuedAndIssued us s).txQueue =
        unitsOf s.events ++ s.txQueue ++ us ∧
      (unitsOf (queuedAndIssued us s).events).length + s.inFlight.toNat =
        (unitsOf s.events).length + (queuedAndIssued us s).inFlight.toNat := by
  obtain ⟨-, h⟩ | ⟨u, rest, hfree, hsplit, h⟩ := queuedAndIssued_cases us s
  · rw [h]
    exact ⟨(List.append_assoc ..).symm, rfl⟩
  · rw [h, List.append_assoc, hsplit]
    simp [hfree]

/-- Settles O51: outside the chunker nothing moves; in it, issuing pays for the unit it hands over, and a completion
accepted without fault returns one credit. -/
theorem singleCreditIsConserved : Obligations.SingleCreditIsConserved := by
  intro i s t hexec hreset
  have hruns := exec_runs hexec
  rw [unitCount_eq_length, unitCount_eq_length]
  by_cases hop : opcode i ∈ ([0x40, 0x41, 0x52, 0x53] : List Byte)
  case neg =>
    obtain ⟨-, hflight, hunits⟩ := hruns.chunker_idle hop
    rw [hflight, hunits, if_neg fun h => hop (by simp [h.1]), Nat.add_zero]
  cases hruns with
  | faults k hcredit =>
    have hpaid : ¬ (opcode i = 0x41 ∧ s.inFlight = true) := fun ⟨h, hflight⟩ => by simp [hcredit h] at hflight
    rw [if_neg hpaid]
    rfl
  | answers v hi => rw [if_neg fun h => hi h.1]; rfl
  | writes w hunits hheader =>
    obtain ⟨-, hbalance⟩ := queuedAndIssued_balance _ { s with hdrBuf := _ }
    simpa using hbalance
  | completes hflight =>
    obtain ⟨-, hbalance⟩ := queuedAndIssued_balance [] { s with inFlight := false }
    simpa [hflight] using hbalance
  | fails hflight => simp [hflight]
  | sends r content hunits =>
    rw [afterEncode_eq]
    obtain ⟨-, hbalance⟩ := queuedAndIssued_balance _ _
    simpa using hbalance
  | resets => exact absurd rfl hreset
  | refusesKey hi =>
    have hkey : opcode i ≠ 0x41 := fun h => by simp [h] at hi
    rw [if_neg fun h => hkey h.1]
    rfl
  | _ => simp at hop

/-- Settles O52: outside the chunker nothing moves; in it, the queue is lengthened at its tail and issued from its head,
and the two commands that discard it hand over nothing. -/
theorem unitsLeaveInQueueOrder : Obligations.UnitsLeaveInQueueOrder := by
  intro i s t hexec
  have hruns := exec_runs hexec
  constructor
  · intro hreset hfailed
    have quiet (hqueue : t.txQueue = s.txQueue) (hunits : unitsOf t.events = unitsOf s.events) :
        ∃ us, unitsOf t.events ++ t.txQueue = unitsOf s.events ++ s.txQueue ++ us ∧
          (opcode i ≠ 0x40 → opcode i ≠ 0x52 → us = []) :=
      ⟨[], by rw [hqueue, hunits, List.append_nil], fun _ _ => rfl⟩
    by_cases hop : opcode i ∈ ([0x40, 0x41, 0x52, 0x53] : List Byte)
    case neg =>
      obtain ⟨hqueue, -, hunits⟩ := hruns.chunker_idle hop
      exact quiet hqueue hunits
    cases hruns with
    | faults k hcredit => exact quiet rfl rfl
    | answers v hi => exact quiet rfl rfl
    | refusesKey hi => exact quiet rfl rfl
    | writes w hunits hheader => exact ⟨_, (queuedAndIssued_balance _ _).1, fun h => absurd (by simp) h⟩
    | completes hflight => exact ⟨[], (queuedAndIssued_balance _ _).1, fun _ _ => rfl⟩
    | fails hflight => exact absurd rfl hfailed
    | sends r content hunits =>
      rw [afterEncode_eq]
      exact ⟨_, (queuedAndIssued_balance _ _).1, fun _ h => absurd (by simp) h⟩
    | resets => exact absurd rfl hreset
    | _ => simp at hop
  · rintro (rfl | rfl)
    · obtain rfl := Host.Outcome.next.inj ((exec_sessionReset s).symm.trans hexec)
      rfl
    · cases hruns with
      | faults k hcredit => rfl
      | answers v hi => rfl
      | refusesKey hi => rfl
      | fails hflight => simp

end Sys2Proof.Machine
end

section
/-! # The invariant (10_state.md R31 to R38; 30_encoding.md R121)

`Inv` speaks of the reassembler, the chunker, three session flags and the result port. An operation that writes none of
these keeps it field by field; what is left are the three steps of the reassembler and the issue step. -/

namespace Sys2Proof.Machine

/-! ### Results -/

section
variable {s : State}

/-- A result that is no fault may stand on the port whatever the sticky flag holds. -/
theorem Inv.give (h : Inv s) {r : Result} (hr : ∀ k, r ≠ .fault k) : Inv (s.give r) :=
  { h with faultKept := fun k hk => absurd (Option.some.inj hk) (hr k) }

theorem Inv.returned (h : Inv s) (v : Value) : Inv (returned v s) := h.give nofun

theorem Inv.faulted (h : Inv s) (k : FaultKind) : Inv (faulted k s) :=
  { h with
    faultKept := fun _ _ => by
      change (if s.fault = none then some k else s.fault) ≠ none
      split
      · exact Option.some_ne_none k
      · assumption }

theorem decodeResult_ne_fault (d : Except CorruptReason Bytes) (k : FaultKind) : decodeResult d ≠ .fault k := by
  cases d <;> nofun

theorem Inv.withPending (h : Inv s) (rest : List Command) : Inv { s with pending := rest } := { h with }

end

/-! ### Receiving -/

theorem subpacketCount_le (b : Byte) : subpacketCount b ≤ 63 := by
  have hmask : subpacketCount b = b.toNat &&& 63 := by rw [subpacketCount, BitVec.toNat_and]; rfl
  rw [hmask]
  exact Nat.and_le_right

theorem countAfterOther_le {s : State} (h : s.wdCount ≤ wdLimit) : countAfterOther s ≤ wdLimit := by
  unfold countAfterOther
  split
  · exact Nat.zero_le _
  · exact h

section
variable {s : State}

theorem Inv.receiveFrame (h : Inv s) (frame : Bytes) : Inv (s.receiveFrame frame) := by
  obtain ⟨p, -, heq⟩ | ⟨r, -, heq⟩ := receiveFrame_cases frame s
  · rw [heq, afterDecode_eq]
    exact { h with }
  · rw [heq, afterDecode_eq]
    exact { h with }

theorem Inv.arrive (h : Inv s) (t : Nat) : Inv (arrive t s) :=
  { h with
    dataState := fun hstate => h.dataState (by
      change (if isStale s.lastByteTime t = true then RxState.awaitTag else s.rxState) = _ at hstate
      split at hstate
      · cases hstate
      · exact hstate) }

theorem Inv.tagStep (h : Inv s) (b : Byte) : Inv (tagStep b s) := by
  have hother := countAfterOther_le h.wdBound
  rw [tagStep_eq]
  split
  · exact { h with dataState := nofun, wdBound := hother }
  · split
    · split
      · exact { h with wdBound := Nat.zero_le _ }
      next hbelow => exact { h with wdBound := Nat.le_of_not_lt hbelow }
    · exact { h with wdBound := hother }

theorem Inv.lengthStep (h : Inv s) (b : Byte) : Inv (lengthStep b s) := by
  rw [lengthStep_eq]
  have hcount : (b &&& 0x3F).toNat ≤ 63 := subpacketCount_le b
  exact { h with
    bufLength := by simp
    posInBuf := by simp
    targetShape := .inr ⟨_, hcount, by rw [Nat.mul_comm]⟩
    dataState := fun _ => ⟨le_rfl, by simp; omega, rfl, rfl⟩
    wdBound := countAfterOther_le h.wdBound }

theorem Inv.dataStep (h : Inv s) (hstate : s.rxState = .awaitData) (b : Byte) : Inv (dataStep b s) := by
  obtain ⟨hpos, hroom, htag, htarget⟩ := h.dataState hstate
  have hother := countAfterOther_le h.wdBound
  have hlength : (s.rxBuf.set s.rxPos b).length = s.rxTarget := by rw [List.length_set, h.bufLength]
  rw [dataStep_eq]
  split
  next => exact { h with dataState := nofun, wdBound := hother }
  next hnotFull =>
    have hnext : s.rxPos + 1 ≤ s.rxTarget := by omega
    split
    next =>
      refine Inv.receiveFrame ?_ _
      exact { h with bufLength := hlength, posInBuf := hnext, dataState := nofun, wdBound := hother }
    next hmore =>
      have hkept (i : Nat) (hi : i < 2) : (s.rxBuf.set s.rxPos b).getD i 0 = s.rxBuf.getD i 0 := by
        rw [List.getD_eq_getElem?_getD, List.getElem?_set_ne (by omega), List.getD_eq_getElem?_getD]
      exact { h with
        bufLength := hlength
        posInBuf := hnext
        dataState := fun _ => ⟨by change 2 ≤ s.rxPos + 1; omega, .inl (by change s.rxPos + 1 < s.rxTarget; omega),
          (hkept 0 (by decide)).trans htag, (congrArg targetLength (hkept 1 (by decide))).trans htarget⟩
        wdBound := hother }

theorem Inv.rxStep (h : Inv s) (b : Byte) (t : Nat) : Inv (rxStep b t s) := by
  have harrived := h.arrive t
  obtain ⟨-, heq⟩ | ⟨-, heq⟩ | ⟨hstate, heq⟩ := rxStep_cases b t s
  · exact heq ▸ harrived.tagStep b
  · exact heq ▸ harrived.lengthStep b
  · exact heq ▸ harrived.dataStep hstate b

theorem Inv.rxSteps (h : Inv s) (value : Bytes) (t : Nat) : Inv (rxSteps value t s) := by
  induction value generalizing s with
  | nil => exact h
  | cons b value ih => exact ih (h.rxStep b t)

end

/-! ### Issuing -/

theorem Inv.queueLegal {s : State} (h : Inv s) : QueueLegal s := h.queueUnits

/-- Whether or not the credit was free, after the issue step a free credit leaves the queue empty (45_chunker.md
R265). -/
theorem Inv.queuedAndIssued {s : State} {us : List Bytes} (h : Inv { s with inFlight := true })
    (hunits : ∀ u ∈ us, LegalEvent s.config.backend (.txUnit u)) : Inv (queuedAndIssued us s) := by
  have hqueue : ∀ u ∈ s.txQueue ++ us, LegalEvent s.config.backend (.txUnit u) := fun u hu =>
    (List.mem_append.mp hu).elim (h.queueLegal u) (hunits u)
  obtain ⟨hidle, heq⟩ | ⟨head, rest, -, hsplit, heq⟩ := queuedAndIssued_cases us s
  · rw [heq]
    exact { h with
      creditFree := fun hfree => hidle.resolve_left (ne_true_of_eq_false hfree)
      queueUnits := hqueue }
  · rw [heq]
    rw [hsplit] at hqueue
    exact { h with creditFree := nofun, queueUnits := fun u hu => hqueue u (List.mem_cons_of_mem _ hu) }

/-! ### Every command -/

theorem Inv.runs {i : Instr} {s t : State} (h : Inv s) (hruns : Runs s i t) : Inv t := by
  cases hruns with
  | faults k hcredit => exact h.faulted k
  | answers v hi => exact h.returned v
  | refusesKey hi => exact { h with faultKept := nofun }
  | inits key k v => exact { h with faultKept := nofun }
  | encrypts data v => exact { h with faultKept := nofun }
  | decrypts data v => exact { h with faultKept := nofun }
  | encodes r e content v =>
    rw [afterEncode_eq]
    exact { h with faultKept := nofun }
  | decodes frame =>
    rw [afterDecode_eq]
    refine Inv.give ?_ (decodeResult_ne_fault _)
    exact { h with }
  | receivesByte b t => exact (h.rxStep b t).returned _
  | receivesBytes value t => exact (h.rxSteps value t).returned _
  | receivesFrame frame => exact (h.receiveFrame frame).returned _
  | writes w hunits hheader =>
    refine Inv.returned (Inv.queuedAndIssued ?_ ?_) _
    · exact { h with creditFree := nofun, headerOnlyBle := fun hspp => (hheader hspp).trans (h.headerOnlyBle hspp) }
    · exact hunits
  | completes hflight =>
    refine Inv.returned (Inv.queuedAndIssued ?_ (List.forall_mem_nil _)) _
    exact { h with creditFree := nofun }
  | fails hflight =>
    exact { h with
      creditFree := fun _ => rfl, queueUnits := List.forall_mem_nil _, headerOnlyBle := fun _ => rfl
      faultKept := nofun }
  | builds key enableFlag k v =>
    rw [authBuilt_eq]
    exact { h with authHasChallenge := nofun, encOutHasChallenge := fun _ => rfl, faultKept := nofun }
  | accepts o echo v hchallenge =>
    exact { h with
      authHasChallenge := fun _ => hchallenge, encOutHasChallenge := fun _ => hchallenge, faultKept := nofun }
  | rejects o echo v => exact { h with authHasChallenge := nofun, faultKept := nofun }
  | sends r content hunits =>
    rw [afterEncode_eq]
    refine Inv.returned (Inv.queuedAndIssued ?_ ?_) _
    · exact { h with creditFree := nofun }
    · exact hunits
  | resets =>
    exact { h with
      bufLength := rfl, posInBuf := le_rfl, targetShape := .inl rfl, dataState := nofun, wdBound := Nat.zero_le _
      creditFree := fun _ => rfl, queueUnits := List.forall_mem_nil _, headerOnlyBle := fun _ => rfl
      authHasChallenge := nofun, encOutHasChallenge := nofun, faultKept := nofun }

/-- What a step does: nothing, or the first command at the port is taken off it and faulted or run. -/
theorem step_cases {s t : State} (h : step s = .next t) :
    t = s ∨ ∃ c rest, s.pending = c :: rest ∧
      ((∃ k, t = faulted k { s with pending := rest }) ∨ ∃ i, Runs { s with pending := rest } i t) := by
  cases hpending : s.pending with
  | nil =>
    rw [step_of_pending_nil hpending] at h
    exact .inl (Host.Outcome.next.inj h).symm
  | cons c rest =>
    refine .inr ⟨c, rest, rfl, ?_⟩
    cases hdecode : decode c with
    | ok i =>
      rw [step_of_decode_ok hpending hdecode] at h
      exact .inr ⟨i, exec_runs h⟩
    | error e =>
      rw [step_of_decode_error hpending hdecode] at h
      exact .inl ⟨_, (Host.Outcome.next.inj h).symm⟩

/-- Settles O15: the invariant does not speak of the port, and every way a command runs keeps it. -/
theorem stepKeepsInvariant : Obligations.StepKeepsInvariant := by
  intro s t h hstep
  obtain rfl | ⟨c, rest, -, ⟨k, rfl⟩ | ⟨i, hruns⟩⟩ := step_cases hstep
  · exact h
  · exact (h.withPending rest).faulted k
  · exact (h.withPending rest).runs hruns

/-! ### Legal output -/

theorem OutputsLegal.runs {i : Instr} {s t : State} (h : OutputsLegal s) (hqueue : QueueLegal s) (hruns : Runs s i t) :
    OutputsLegal t := by
  obtain ⟨hconfig, -⟩ := hruns.writersOnly
  obtain ⟨n, ⟨es, hes, -, hlegal⟩, -⟩ := hruns.emits
  intro e he
  rw [hconfig]
  rw [hes] at he
  exact (List.mem_append.mp he).elim (h e) fun hnew => (hlegal e hnew).2 hqueue

/-- Settles O16: what a command emits is legal in a state whose queue is, and the invariant says that it is. -/
theorem stepKeepsOutputsLegal : Obligations.StepKeepsOutputsLegal := by
  intro s t hinv h hstep
  obtain rfl | ⟨c, rest, -, ⟨k, rfl⟩ | ⟨i, hruns⟩⟩ := step_cases hstep
  · exact h
  · exact h
  · exact OutputsLegal.runs (s := { s with pending := rest }) h hinv.queueLegal hruns

end Sys2Proof.Machine
end

section
/-! # The bits reset leaves unspecified (70_reset_and_hazards.md R360)

Two states that are the same observably differ in five registers alone. Most operations neither read nor write these:
`IgnoresHidden`, which relates their results at once. The cipher streams do, and only a ready cipher's output is used,
in which case the registers they read agree. -/

namespace Sys2Proof.Machine

/-! ### The hidden registers -/

/-- Values for the five registers in which observably equal states may differ. -/
structure HiddenRegs where
  key : Block
  encChain : Block
  decChain : Block
  iv : Block
  cmp : Block

/-- The five registers of a state. -/
def State.hiddenRegs (s : State) : HiddenRegs := ⟨s.key, s.encChain, s.decChain, s.iv, s.cmp⟩

/-- The state with other values in the five registers. -/
def State.withHidden (x : HiddenRegs) (s : State) : State :=
  { s with key := x.key, encChain := x.encChain, decChain := x.decChain, iv := x.iv, cmp := x.cmp }

/-- An operation that neither reads nor writes the five registers, nor the two flags that say which of them count. -/
structure IgnoresHidden (f : State → State) : Prop where
  commutes : ∀ x s, f (s.withHidden x) = (f s).withHidden x
  ready : ∀ s, (f s).ready = s.ready
  cmpValid : ∀ s, (f s).cmpValid = s.cmpValid

theorem IgnoresHidden.hiddenRegs {f : State → State} (hf : IgnoresHidden f) (s : State) :
    (f s).hiddenRegs = s.hiddenRegs := by
  have hself : s.withHidden s.hiddenRegs = s := rfl
  calc (f s).hiddenRegs = (f (s.withHidden s.hiddenRegs)).hiddenRegs := by rw [hself]
    _ = ((f s).withHidden s.hiddenRegs).hiddenRegs := by rw [hf.commutes]
    _ = s.hiddenRegs := rfl

section
variable {s t : State}

theorem sameObservable_iff :
    SameObservable s t ↔ t.withHidden s.hiddenRegs = s ∧
      (s.ready = true → t.hiddenRegs.key = s.hiddenRegs.key ∧ t.hiddenRegs.encChain = s.hiddenRegs.encChain ∧
        t.hiddenRegs.decChain = s.hiddenRegs.decChain) ∧
      (s.cmpValid = true → t.hiddenRegs.cmp = s.hiddenRegs.cmp) :=
  ⟨fun h => ⟨h.restEqual, fun hready => ⟨h.keyEqual hready, h.encEqual hready, h.decEqual hready⟩, h.cmpEqual⟩,
    fun ⟨hrest, hready, hcmp⟩ => ⟨hrest, fun h => (hready h).1, fun h => (hready h).2.1, fun h => (hready h).2.2, hcmp⟩⟩

theorem IgnoresHidden.same {f : State → State} (hf : IgnoresHidden f) (h : SameObservable s t) :
    SameObservable (f s) (f t) := by
  rw [sameObservable_iff] at h ⊢
  obtain ⟨hrest, hregs⟩ := h
  rw [hf.hiddenRegs, hf.hiddenRegs, hf.ready, hf.cmpValid, ← hf.commutes, hrest]
  exact ⟨rfl, hregs⟩

end

/-! ### The operations that ignore them -/

theorem returned_ignoresHidden (v : Value) : IgnoresHidden (returned v) := ⟨fun _ _ => rfl, fun _ => rfl, fun _ => rfl⟩

theorem give_ignoresHidden (r : Result) : IgnoresHidden (State.give r) := ⟨fun _ _ => rfl, fun _ => rfl, fun _ => rfl⟩

theorem raise_ignoresHidden (k : FaultKind) : IgnoresHidden (State.raise k) :=
  ⟨fun _ _ => rfl, fun _ => rfl, fun _ => rfl⟩

theorem emit_ignoresHidden (e : Event) : IgnoresHidden (State.emit e) := ⟨fun _ _ => rfl, fun _ => rfl, fun _ => rfl⟩

theorem drawsTaken_ignoresHidden (n : Nat) : IgnoresHidden (drawsTaken n) :=
  ⟨fun _ _ => rfl, fun _ => rfl, fun _ => rfl⟩

theorem arrive_ignoresHidden (t : Nat) : IgnoresHidden (arrive t) := ⟨fun _ _ => rfl, fun _ => rfl, fun _ => rfl⟩

theorem tagStep_ignoresHidden (b : Byte) : IgnoresHidden (tagStep b) where
  commutes x s := by
    simp only [tagStep_eq, apply_ite (State.withHidden x)]
    rfl
  ready s := by rw [tagStep_eq_receivedFrom]; rfl
  cmpValid s := by rw [tagStep_eq_receivedFrom]; rfl

theorem lengthStep_ignoresHidden (b : Byte) : IgnoresHidden (lengthStep b) where
  commutes x s := by
    rw [lengthStep_eq, lengthStep_eq]
    rfl
  ready s := by rw [lengthStep_eq]
  cmpValid s := by rw [lengthStep_eq]

theorem storeByte_ignoresHidden (b : Byte) : IgnoresHidden (storeByte b) where
  commutes x s := by
    rw [storeByte_eq, storeByte_eq]
    rfl
  ready s := by rw [storeByte_eq]
  cmpValid s := by rw [storeByte_eq]

/-- Going back to AwaitTag, as the reassembler does before it dispatches a frame. -/
theorem awaitTag_ignoresHidden : IgnoresHidden fun s => { s with rxState := .awaitTag } :=
  ⟨fun _ _ => rfl, fun _ => rfl, fun _ => rfl⟩

theorem wdOther_ignoresHidden : IgnoresHidden State.wdOther where
  commutes x s := by
    rw [wdOther_eq, wdOther_eq]
    rfl
  ready s := by rw [wdOther_eq]
  cmpValid s := by rw [wdOther_eq]

theorem queuedAndIssued_ignoresHidden (us : List Bytes) : IgnoresHidden (queuedAndIssued us) where
  commutes x s := by
    obtain ⟨hidle, h⟩ | ⟨u, rest, hfree, hsplit, h⟩ := queuedAndIssued_cases us s
    · rw [h, queuedAndIssued_of_idle (s := s.withHidden x) hidle]
      rfl
    · rw [h, queuedAndIssued_of_free (s := s.withHidden x) hfree hsplit]
      rfl
  ready s := by rw [queuedAndIssued_eq_issuedFrom]; rfl
  cmpValid s := by rw [queuedAndIssued_eq_issuedFrom]; rfl

/-! Writes to single elements outside the five registers. -/

theorem header_ignoresHidden (header : Option (Byte × Byte)) : IgnoresHidden fun s => { s with hdrBuf := header } :=
  ⟨fun _ _ => rfl, fun _ => rfl, fun _ => rfl⟩

theorem creditFreed_ignoresHidden : IgnoresHidden fun s => { s with inFlight := false } :=
  ⟨fun _ _ => rfl, fun _ => rfl, fun _ => rfl⟩

theorem writeFailed_ignoresHidden : IgnoresHidden fun s =>
    { s with inFlight := false, txQueue := [], hdrBuf := none, events := s.events ++ [.error 0x0100] } :=
  ⟨fun _ _ => rfl, fun _ => rfl, fun _ => rfl⟩

theorem authAccepted_ignoresHidden (o : Bool) : IgnoresHidden fun s => { s with encOut := o, authOk := true } :=
  ⟨fun _ _ => rfl, fun _ => rfl, fun _ => rfl⟩

theorem authRejected_ignoresHidden : IgnoresHidden fun s => { s with authOk := false } :=
  ⟨fun _ _ => rfl, fun _ => rfl, fun _ => rfl⟩

theorem pending_ignoresHidden (rest : List Command) : IgnoresHidden fun s => { s with pending := rest } :=
  ⟨fun _ _ => rfl, fun _ => rfl, fun _ => rfl⟩

/-! ### The operations of the cipher -/

section
variable {s t : State} (h : SameObservable s t)
include h

/-- What does not read the five registers reads the same. -/
theorem SameObservable.reading_eq {α : Type} (f : State → α) (hf : ∀ x u, f (u.withHidden x) = f u) : f t = f s :=
  calc f t = f (t.withHidden s.hiddenRegs) := (hf _ t).symm
    _ = f s := congrArg f h.restEqual

theorem SameObservable.ready_eq : t.ready = s.ready := h.reading_eq State.ready fun _ _ => rfl

theorem SameObservable.drawAt_eq (n : Nat) : drawAt t n = drawAt s n := h.reading_eq (drawAt · n) fun _ _ => rfl

theorem SameObservable.encBlocks_eq (hready : s.ready = true) (data : Bytes) : t.encBlocks data = s.encBlocks data := by
  rw [State.encBlocks, h.keyEqual hready, h.encEqual hready]
  rfl

theorem SameObservable.decOutput_eq (hready : s.ready = true) (data : Bytes) : t.decOutput data = s.decOutput data := by
  rw [State.decOutput, h.keyEqual hready, h.decEqual hready]
  rfl

theorem SameObservable.encAdvance (data : Bytes) : SameObservable (s.encAdvance data) (t.encAdvance data) :=
  { h with
    restEqual := congrArg (fun u : State => { u with encChain := (s.encAdvance data).encChain }) h.restEqual
    encEqual := fun hready => by
      rw [State.encAdvance_encChain, State.encAdvance_encChain, h.encBlocks_eq hready, h.encEqual hready] }

theorem SameObservable.decAdvance (data : Bytes) : SameObservable (s.decAdvance data) (t.decAdvance data) :=
  { h with
    restEqual := congrArg (fun u : State => { u with decChain := (s.decAdvance data).decChain }) h.restEqual
    decEqual := fun hready => by rw [State.decAdvance_decChain, State.decAdvance_decChain, h.decEqual hready] }

theorem SameObservable.afterEncode (encrypt : Bool) (content : Bytes) :
    SameObservable (s.afterEncode encrypt content) (t.afterEncode encrypt content) := by
  cases encrypt with
  | false => exact h
  | true => exact h.encAdvance (plainBody content)

theorem SameObservable.encodedFrame_eq (respond : Bool) {encrypt : Bool} (content : Bytes)
    (hready : encrypt = true → s.ready = true) :
    t.encodedFrame respond encrypt content = s.encodedFrame respond encrypt content := by
  cases encrypt with
  | false => rw [State.encodedFrame_eq, State.encodedFrame_eq, if_neg Bool.false_ne_true, if_neg Bool.false_ne_true]
  | true => rw [State.encodedFrame, State.encodedFrame, State.encOutput, State.encOutput, h.encBlocks_eq (hready rfl)]

theorem SameObservable.decodedFrame_eq (frame : Bytes) : t.decodedFrame frame = s.decodedFrame frame := by
  simp only [State.decodedFrame, h.ready_eq]
  by_cases hready : s.ready = true
  · rw [h.decOutput_eq hready]
  · simp only [if_neg hready]

theorem SameObservable.afterDecode (frame : Bytes) : SameObservable (s.afterDecode frame) (t.afterDecode frame) := by
  simp only [State.afterDecode, h.ready_eq]
  split
  · exact h.decAdvance _
  · exact h

theorem SameObservable.badKey : SameObservable s.badKey t.badKey :=
  { h with
    restEqual := congrArg State.badKey h.restEqual
    keyEqual := nofun, encEqual := nofun, decEqual := nofun }

theorem SameObservable.seed (k v : Block) : SameObservable (s.seed k v) (t.seed k v) where
  restEqual := congrArg (State.seed k v) h.restEqual
  keyEqual _ := rfl
  encEqual _ := rfl
  decEqual _ := rfl
  cmpEqual := h.cmpEqual

/-- AUTH_BUILD writes all five registers, from draws and the key alone (46_session.md R301). -/
theorem SameObservable.authBuilt (k : Block) : SameObservable (s.authBuilt k) (t.authBuilt k) := by
  have hdraws := ((drawsTaken_ignoresHidden 3).same h).restEqual
  rw [authBuilt_eq, authBuilt_eq, h.drawAt_eq, h.drawAt_eq, h.drawAt_eq]
  exact {
    restEqual := congrArg (fun u : State => { u with
      key := k, iv := drawAt s 0, decChain := drawAt s 0, ready := true
      encChain := aesE k (blockXor (challengeBlock (drawAt s 1)) (drawAt s 0))
      cmp := drawAt s 2, cmpValid := true, authOk := false }) hdraws
    keyEqual := fun _ => rfl
    encEqual := fun _ => rfl
    decEqual := fun _ => rfl
    cmpEqual := fun _ => rfl }

theorem SameObservable.sessionCleared : SameObservable s.sessionCleared t.sessionCleared where
  restEqual := congrArg State.sessionCleared h.restEqual
  keyEqual := nofun
  encEqual := nofun
  decEqual := nofun
  cmpEqual := nofun

/-! ### Receiving -/

theorem SameObservable.receiveFrame {frame frame' : Bytes} (hframe : frame' = frame) :
    SameObservable (s.receiveFrame frame) (t.receiveFrame frame') := by
  subst hframe
  have hafter := h.afterDecode frame'
  simp only [State.receiveFrame, h.decodedFrame_eq]
  cases s.decodedFrame frame' with
  | ok p => exact (emit_ignoresHidden _).same hafter
  | error r => exact hafter

theorem SameObservable.dataStep (b : Byte) : SameObservable (dataStep b s) (dataStep b t) := by
  have hpos : t.rxPos = s.rxPos := h.reading_eq State.rxPos fun _ _ => rfl
  have htarget : t.rxTarget = s.rxTarget := h.reading_eq State.rxTarget fun _ _ => rfl
  have hbuf : (storeByte b t).rxBuf = (storeByte b s).rxBuf :=
    h.reading_eq (fun u => (storeByte b u).rxBuf) fun x u => by rw [storeByte_eq, storeByte_eq]; rfl
  have hfull : t.rxPos ≥ t.rxTarget ↔ s.rxPos ≥ s.rxTarget := by rw [hpos, htarget]
  have hlast : t.rxPos + 1 = t.rxTarget ↔ s.rxPos + 1 = s.rxTarget := by rw [hpos, htarget]
  simp only [Machine.dataStep, hfull, hlast]
  split
  · exact wdOther_ignoresHidden.same (awaitTag_ignoresHidden.same h)
  · split
    · exact (awaitTag_ignoresHidden.same ((storeByte_ignoresHidden b).same h)).receiveFrame hbuf
    · exact (storeByte_ignoresHidden b).same h

theorem SameObservable.rxStep (b : Byte) (time : Nat) : SameObservable (rxStep b time s) (rxStep b time t) := by
  have harrived := (arrive_ignoresHidden time).same h
  have hstate : (arrive time t).rxState = (arrive time s).rxState :=
    harrived.reading_eq State.rxState fun _ _ => rfl
  simp only [Machine.rxStep, hstate]
  cases (arrive time s).rxState with
  | awaitTag => exact (tagStep_ignoresHidden b).same harrived
  | awaitLength => exact (lengthStep_ignoresHidden b).same harrived
  | awaitData => exact harrived.dataStep b

end

theorem SameObservable.rxSteps {s t : State} (h : SameObservable s t) (value : Bytes) (time : Nat) :
    SameObservable (rxSteps value time s) (rxSteps value time t) := by
  induction value generalizing s t with
  | nil => exact h
  | cons b value ih => exact ih (h.rxStep b time)

/-! ### Every command -/

/-- Two answers are next states that are the same observably. -/
def SameAnswers (a b : Answer) : Prop := ∃ s t, a = .next s ∧ b = .next t ∧ SameObservable s t

theorem SameObservable.answers {s t : State} (h : SameObservable s t) : SameAnswers (.next s) (.next t) :=
  ⟨s, t, rfl, rfl, h⟩

section
variable {s t : State} (h : SameObservable s t)
include h

theorem SameObservable.cmpValid_eq : t.cmpValid = s.cmpValid := h.reading_eq State.cmpValid fun _ _ => rfl
theorem SameObservable.encOut_eq : t.encOut = s.encOut := h.reading_eq State.encOut fun _ _ => rfl
theorem SameObservable.config_eq : t.config = s.config := h.reading_eq State.config fun _ _ => rfl
theorem SameObservable.hdrBuf_eq : t.hdrBuf = s.hdrBuf := h.reading_eq State.hdrBuf fun _ _ => rfl
theorem SameObservable.inFlight_eq : t.inFlight = s.inFlight := h.reading_eq State.inFlight fun _ _ => rfl

theorem SameObservable.answer (v : Value) : SameAnswers (.next (s.ok v)) (.next (t.ok v)) :=
  ((give_ignoresHidden _).same h).answers

theorem SameObservable.fault (k : FaultKind) : SameAnswers (.next (s.raise k)) (.next (t.raise k)) :=
  ((raise_ignoresHidden k).same h).answers

/-- A precondition that reads the same in both states: broken in both, or in neither. -/
theorem SameObservable.check {a b : Answer} {c d : Prop} {_ : Decidable c} {_ : Decidable d} {k : FaultKind}
    (hcd : d ↔ c) (rest : ¬ c → SameAnswers a b) :
    SameAnswers (if c then .next (s.raise k) else a) (if d then .next (t.raise k) else b) := by
  by_cases hc : c
  · rw [if_pos hc, if_pos (hcd.mpr hc)]
    exact h.fault k
  · rw [if_neg hc, if_neg (mt hcd.mp hc)]
    exact rest hc

theorem SameObservable.cipherInit (key : Bytes) : SameAnswers (execCipherInit key s) (execCipherInit key t) := by
  by_cases hkey : key.length = 16
  · rw [execCipherInit_of_good_key hkey, execCipherInit_of_good_key hkey, h.drawAt_eq]
    exact (((drawsTaken_ignoresHidden 1).same h).seed _ _).answer _
  · rw [execCipherInit_of_bad_key hkey, execCipherInit_of_bad_key hkey]
    exact h.badKey.answers

theorem SameObservable.cipherEncrypt (data : Bytes) :
    SameAnswers (execCipherEncrypt data s) (execCipherEncrypt data t) := by
  refine h.check (by rw [h.ready_eq]) fun hready => h.check Iff.rfl fun _ => ?_
  have houtput : t.encOutput data = s.encOutput data := by
    rw [State.encOutput, h.encBlocks_eq (by simpa using hready)]
    rfl
  rw [houtput]
  exact (h.encAdvance data).answer _

theorem SameObservable.cipherDecrypt (data : Bytes) :
    SameAnswers (execCipherDecrypt data s) (execCipherDecrypt data t) := by
  refine h.check (by rw [h.ready_eq]) fun hready => h.check Iff.rfl fun _ => ?_
  rw [h.decOutput_eq (by simpa using hready)]
  exact (h.decAdvance data).answer _

theorem SameObservable.frameEncode (r e : Bool) (content : Bytes) :
    SameAnswers (execFrameEncode r e content s) (execFrameEncode r e content t) := by
  refine h.check Iff.rfl fun _ => h.check (by rw [h.ready_eq]) fun hready => ?_
  rw [h.encodedFrame_eq r content (by simpa using hready)]
  exact (h.afterEncode e content).answer _

theorem SameObservable.frameDecode (frame : Bytes) :
    SameAnswers (exec (.frameDecode frame) s) (exec (.frameDecode frame) t) := by
  rw [exec_frameDecode, exec_frameDecode, h.decodedFrame_eq]
  exact ((give_ignoresHidden _).same (h.afterDecode frame)).answers

theorem SameObservable.sendUnits (us : List Bytes) : SameObservable (s.sendUnits us) (t.sendUnits us) := by
  rw [sendUnits_eq, sendUnits_eq]
  exact (returned_ignoresHidden _).same ((queuedAndIssued_ignoresHidden us).same h)

theorem SameObservable.txWriteBle (w : Bytes) : SameObservable (txWriteBle w s) (txWriteBle w t) := by
  simp only [Machine.txWriteBle, h.hdrBuf_eq]
  cases writeForm w.length with
  | header =>
    dsimp only
    split
    · exact (raise_ignoresHidden _).same h
    · exact ((header_ignoresHidden _).same h).sendUnits _
  | body => exact ((header_ignoresHidden none).same h).sendUnits _
  | frame =>
    dsimp only
    split
    · exact (raise_ignoresHidden _).same h
    · exact h.sendUnits _
  | bad => exact (raise_ignoresHidden _).same h

theorem SameObservable.txWrite (w : Bytes) : SameAnswers (execTxWrite w s) (execTxWrite w t) := by
  refine h.check (by rw [h.config_eq]) fun _ => ?_
  rw [h.config_eq]
  cases s.config.backend with
  | ble => exact (h.txWriteBle w).answers
  | spp =>
    simp only [txWriteSpp]
    split
    · exact h.fault _
    · exact (h.sendUnits [w]).answers

theorem SameObservable.txWriteDone (success : Bool) :
    SameAnswers (execTxWriteDone success s) (execTxWriteDone success t) := by
  cases hflight : s.inFlight with
  | false =>
    rw [execTxWriteDone_of_free hflight, execTxWriteDone_of_free (h.inFlight_eq.trans hflight),
      ← State.raise_eq_faulted, ← State.raise_eq_faulted]
    exact h.fault _
  | true =>
    have hflight' := h.inFlight_eq.trans hflight
    cases success with
    | true =>
      rw [execTxWriteDone_success hflight, execTxWriteDone_success hflight']
      exact ((queuedAndIssued_ignoresHidden []).same (creditFreed_ignoresHidden.same h)).answer _
    | false =>
      rw [execTxWriteDone_failure hflight, execTxWriteDone_failure hflight']
      exact (writeFailed_ignoresHidden.same h).answer _

theorem SameObservable.authBuild (key : Bytes) (enableFlag : Byte) :
    SameAnswers (execAuthBuild key enableFlag s) (execAuthBuild key enableFlag t) := by
  by_cases hkey : key.length = 16
  · rw [execAuthBuild_of_good_key hkey, execAuthBuild_of_good_key hkey, authEncrypted_eq, authEncrypted_eq,
      h.drawAt_eq, h.drawAt_eq, h.drawAt_eq]
    exact (h.authBuilt _).answer _
  · rw [execAuthBuild_of_bad_key hkey, execAuthBuild_of_bad_key hkey]
    exact h.badKey.answers

theorem SameObservable.authCheck (o : Bool) (echo : Bytes) :
    SameAnswers (execAuthCheck o echo s) (execAuthCheck o echo t) := by
  refine h.check (by rw [h.cmpValid_eq]) fun hcmp => ?_
  cases block16 echo with
  | none => exact h.fault _
  | some e =>
    refine h.check (by rw [h.ready_eq]) fun hready => ?_
    have haccepted : t.echoAccepted e = s.echoAccepted e := by
      rw [State.echoAccepted, h.keyEqual (by simpa using hready), h.decEqual (by simpa using hready),
        h.cmpEqual (by simpa using hcmp)]
      rfl
    rw [haccepted]
    split
    · exact ((authAccepted_ignoresHidden o).same (h.decAdvance echo)).answer _
    · exact (authRejected_ignoresHidden.same (h.decAdvance echo)).answer _

theorem SameObservable.send (r : Bool) (content : Bytes) :
    SameAnswers (execSend r content s) (execSend r content t) := by
  refine h.check (by rw [h.config_eq]) fun _ => h.check Iff.rfl fun _ =>
    h.check (by rw [h.encOut_eq, h.ready_eq]) fun hready => h.check (by rw [h.config_eq, h.hdrBuf_eq]) fun _ => ?_
  rw [h.encOut_eq, h.config_eq, h.encodedFrame_eq r content (by simpa using hready)]
  exact ((h.afterEncode _ content).sendUnits _).answers

theorem SameObservable.exec (i : Instr) : SameAnswers (exec i s) (exec i t) := by
  cases i with
  | cipherInit key => exact h.cipherInit key
  | cipherEncrypt data => exact h.cipherEncrypt data
  | cipherDecrypt data => exact h.cipherDecrypt data
  | cipherIsReady =>
    have hready := h.ready_eq
    change SameAnswers (.next (s.ok (.byte (boolByte s.ready)))) (.next (t.ok (.byte (boolByte t.ready))))
    rw [hready]
    exact h.answer _
  | crc32 data => exact h.answer _
  | crcStamp region => exact h.check Iff.rfl fun _ => h.answer _
  | crcValidate region => exact h.check Iff.rfl fun _ => h.answer _
  | packetBuild cmd param data => exact h.check Iff.rfl fun _ => h.answer _
  | frameEncode r e content => exact h.frameEncode r e content
  | frameDecode frame => exact h.frameDecode frame
  | rxByte b time => exact (h.rxStep b time).answer _
  | txWrite w => exact h.txWrite w
  | txWriteDone success => exact h.txWriteDone success
  | bleNotify value time => exact (h.rxSteps value time).answer _
  | authBuild key enableFlag => exact h.authBuild key enableFlag
  | authCheck o echo => exact h.authCheck o echo
  | send r content => exact h.send r content
  | sessionReset => exact h.sessionCleared.answer _
  | rxFrame frame => exact (h.receiveFrame rfl).answer _

theorem SameObservable.step : SameAnswers (step s) (step t) := by
  have hpending : t.pending = s.pending := h.reading_eq State.pending fun _ _ => rfl
  cases hport : s.pending with
  | nil =>
    rw [step_of_pending_nil hport, step_of_pending_nil (hpending.trans hport)]
    exact h.answers
  | cons c rest =>
    have hport' := hpending.trans hport
    cases hdecode : decode c with
    | ok i =>
      rw [step_of_decode_ok hport hdecode, step_of_decode_ok hport' hdecode]
      exact ((pending_ignoresHidden rest).same h).exec i
    | error e =>
      rw [step_of_decode_error hport hdecode, step_of_decode_error hport' hdecode, ← State.raise_eq_faulted,
        ← State.raise_eq_faulted]
      exact ((pending_ignoresHidden rest).same h).fault _

end

/-- Settles O17: every step keeps states the same observably, and such states have the same result and events. -/
theorem unspecifiedBitsAreUnobservable : Obligations.UnspecifiedBitsAreUnobservable := by
  intro s t h
  obtain ⟨s', t', hs, ht, hsame⟩ := h.step
  exact ⟨s', t', hs, ht, hsame, hsame.reading_eq State.result fun _ _ => rfl,
    hsame.reading_eq State.events fun _ _ => rfl⟩

end Sys2Proof.Machine
end
